-- ==== Sys2Proof/Word.lean ====
section
/-! DEFINITION. The word types of the block: the widths that `00_scope.md` R6 fixes (REG_WIDTH, ADDR_FIELD, SEL_WIDTH) and the byte. -/

namespace Sys2Proof

/-- One byte (u8, R8): a payload byte, a command byte, a flags byte. -/
abbrev Byte := BitVec 8

/-- A 32-bit word (u32, R8): a RegisterValue (R20, R112), a readback word (R73), the serial number (R45). -/
abbrev Word := BitVec 32

/-- A register address: the 4 bits `[3:0]` of a RegisterValue (R20, R21). -/
abbrev RegAddr := BitVec 4

/-- A readback selector: 5 bits (R73, R114). -/
abbrev Selector := BitVec 5

end Sys2Proof
end

