-- ==== Sys2Proof/Config.lean ====
section
/-! DEFINITION. What is fixed for one block and what the model assumes nothing of: the parameter record of `00_scope.md` R6 (every OPEN parameter), the draws of R15 (what the RF chip and the host answer), and the one opaque instance the machine runs under. The records that parameters speak of (the configuration record of R35, the ChannelPlan of R27) stand here too. -/

namespace Sys2Proof

/-- The two directions (R27). -/
inductive Dir where
  | rx
  | tx
  deriving DecidableEq, Repr

/-- The two frame types (R41, R242). -/
inductive FrameType where
  | short
  | long
  deriving DecidableEq, Repr

/-- The AFC loop constants last programmed (R31). -/
structure AfcSettings where
  range : Nat
  ki : Nat
  kp : Nat
  deriving DecidableEq, Repr

/-- The sync-word settings last programmed (R32). -/
structure SyncSettings where
  word : Nat
  bitLength : Nat
  tol : Nat
  deriving DecidableEq, Repr

/-- The configuration record CFG (R34, R35): one field per readable and writable id 0x00 to 0x10. Id 0x11 (STATUS) is computed from the plan_error flags and is no field. -/
structure ConfigRecord where
  rxFreq : Nat
  txFreq : Nat
  modIndex : Rat
  bitrate : Rat
  csThreshold : Rat
  paPower : Nat
  afcEnable : Bool
  afcRange : Nat
  afcKi : Nat
  afcKp : Nat
  ifBwClass : Nat
  trainingBytes : Nat
  syncWord : Nat
  syncLen : Nat
  syncTol : Nat
  txTimeout : Nat
  rxTimeout : Nat
  deriving DecidableEq, Repr

/-- The carrier-synthesis register fields SYNTH gives (R174; `91_not_in_source.md` N5). The spec leaves their layout OPEN: a list of numbers, in the order the parameter SYNTH gives them (DESIGN CHOICE, log entry 12). -/
abbrev SynthFields := List Nat

/-- `ChannelPlan.desired` (R27). -/
structure PlanDesired where
  dataRate : Rat
  modIndex : Rat
  freq : Nat
  deriving DecidableEq, Repr

/-- `ChannelPlan.real` (R27). -/
structure PlanReal where
  dataRate : Rat
  modIndex : Rat
  freq : Rat
  freqDeviation : Rat
  deriving DecidableEq, Repr

/-- `ChannelPlan.derived` (R27; the ranges R27 gives are the planner's guarantee R155). -/
structure PlanDerived where
  dev : Nat
  k : Nat
  demClkDivide : Nat
  cdrClkDivide : Nat
  discBw : Nat
  postDemodBw : Nat
  rxInvert : Bool
  dotProduct : Bool
  synth : SynthFields
  ifBwClass : Nat
  deriving DecidableEq, Repr

/-- The per-direction plan record (R27). -/
structure ChannelPlan where
  desired : PlanDesired
  real : PlanReal
  derived : PlanDerived
  deriving DecidableEq, Repr

/-- The OPEN parameters of R6, one field each. The parameters R6 fixes (marker bytes, search ranges, widths) are constants where they are used. FRAME_LEN_SHORT and FRAME_LEN_LONG are `frameLen` below. -/
structure Params where
  /-- XTAL_DEFAULT, Hz -/
  xtalDefault : Nat
  /-- MAX, the payload capacity of one FrameBuffer -/
  maxPayload : Nat
  /-- RX_PREFIX_LEN, P -/
  rxPrefixLen : Nat
  callsign : List Byte
  trainingSymbol : Byte
  fixedOverhead : Nat
  payloadLimit : FrameType → Nat
  rsEnabled : Bool
  rsRedundancy : Nat
  convEnabled : Bool
  tailLen : Nat
  codeRate : Nat
  quarantineMax : Nat
  regPll : RegAddr
  regClk : RegAddr
  regPa : RegAddr
  rxSeq : List RegAddr
  txSeq : List RegAddr
  /-- PACK_RX(plan, if_bw_class), a payload for each address -/
  packRx : ChannelPlan → Nat → RegAddr → Nat
  /-- PACK_TX(plan), a payload for each address -/
  packTx : ChannelPlan → RegAddr → Nat
  packPa : Nat → Nat
  /-- PACK_AFC(on, range, ki, kp) -/
  packAfc : Bool → Nat → Nat → Nat → List (RegAddr × Nat)
  /-- SYNC_SEQ(word, len, tol) -/
  syncSeq : Nat → Nat → Nat → List (RegAddr × Nat)
  /-- SYNTH(xtal, freq, dir) -/
  synth : Nat → Nat → Dir → SynthFields × Rat
  /-- KPARITY(k odd, ⌈k/2⌉ odd) = (rx_invert, dot_product) -/
  kparity : Bool → Bool → Bool × Bool
  /-- POWERON_SEQ(xtal): exactly three (address, payload) pairs -/
  powerOnSeq : Nat → Vector (RegAddr × Nat) 3
  selRssi : Selector
  selAfc : Selector
  selTemp : Selector
  selVolt : Selector
  selVersion : Selector
  /-- The position (lowest bit) of the 4-bit gain code in the RSSI readback (R114, R183) -/
  gainCodeLo : Nat
  convRssi : Word → Rat
  convAfc : Word → Rat
  convTemp : Word → Rat
  convVolt : Word → Rat
  convVersion : Word → Nat
  gainCorr : Vector Rat 16
  defaults : ConfigRecord
  fwRev : String
  ifbwBits : Nat
  nvSerialInit : Word

/-- Frame length of a type (R244): the byte count before convolutional coding. -/
def Params.codedBytes (p : Params) (t : FrameType) : Nat :=
  p.fixedOverhead + p.payloadLimit t + (if p.rsEnabled then p.rsRedundancy else 0)

/-- FRAME_LEN(t) (R244). -/
def Params.frameLen (p : Params) (t : FrameType) : Nat :=
  if p.convEnabled then (p.codedBytes t + p.tailLen) * p.codeRate else p.codedBytes t

/-- The constraints a model instance must satisfy (the constraints column of R6; R245; R170's "non-empty ordered list"). -/
structure Params.Valid (p : Params) : Prop where
  xtal_pos : 0 < p.xtalDefault
  prefix_le : p.rxPrefixLen ≤ p.callsign.length
  short_pos : 1 ≤ p.frameLen .short
  short_le : p.frameLen .short ≤ p.maxPayload
  long_pos : 1 ≤ p.frameLen .long
  long_le : p.frameLen .long ≤ p.maxPayload
  code_rate_pos : 1 ≤ p.codeRate
  quarantine_pos : 1 ≤ p.quarantineMax
  pll_ne_clk : p.regPll ≠ p.regClk
  pll_ne_pa : p.regPll ≠ p.regPa
  clk_ne_pa : p.regClk ≠ p.regPa
  pll_mem_rx : p.regPll ∈ p.rxSeq
  clk_mem_rx : p.regClk ∈ p.rxSeq
  pa_not_rx : p.regPa ∉ p.rxSeq
  clk_mem_tx : p.regClk ∈ p.txSeq
  pa_not_tx : p.regPa ∉ p.txSeq
  rx_nodup : p.rxSeq.Nodup
  tx_nodup : p.txSeq.Nodup
  pll_last_tx : p.txSeq.getLast? = some p.regPll
  gain_fits : p.gainCodeLo + 4 ≤ 32
  ifbw_pos : 1 ≤ p.ifbwBits
  afc_nonempty : ∀ on r i k, p.packAfc on r i k ≠ []
  sync_nonempty : ∀ w l t, p.syncSeq w l t ≠ []

/-- The draws (R10, R15, R18): what external agents answer and what the spec calls unspecified, one function each of how many draws were taken before. The model assumes nothing of them. -/
structure Draws where
  /-- The word a BusRead returns (R73; `93_implementation_defined.md` V1) -/
  readback : Nat → Selector → Word
  /-- The host's answer to HostPull (R10; V4): none, or the payload of a TxFrame (R117) -/
  hostPull : Nat → Option (List Byte)
  /-- An rssi or freq value that is unspecified (R60, R265; V6, V7) -/
  rat : Nat → Rat
  /-- ftype after a later reset (R60; V7) -/
  frameType : Nat → FrameType

/-- All that is fixed for one block: a valid parameter record and the draws. -/
structure Config extends Params where
  valid : toParams.Valid
  draws : Draws

/-- The test instance TI of `95_test_vectors.md` section 2. It is used for two things only: to show that the constraints of R6 can be met (so that `Config.chosen` has a type with a value in it), and by this model's own tests. No meaning is given under it. -/
def Config.testInstance : Config where
  xtalDefault := 16000000
  maxPayload := 8
  rxPrefixLen := 2
  callsign := [0xC3#8, 0x5A#8, 0x0F#8]
  trainingSymbol := 0x55#8
  fixedOverhead := 2
  payloadLimit t := match t with | .short => 1 | .long => 3
  rsEnabled := false
  rsRedundancy := 0
  convEnabled := false
  tailLen := 0
  codeRate := 1
  quarantineMax := 3
  regPll := 0#4
  regClk := 3#4
  regPa := 2#4
  rxSeq := [3#4, 0#4]
  txSeq := [3#4, 0#4]
  packRx plan _ a := if a = 3#4 then plan.derived.demClkDivide + 16 * plan.derived.cdrClkDivide else 0xAB
  packTx plan a := if a = 3#4 then plan.derived.demClkDivide + 16 * plan.derived.cdrClkDivide else 0xCD
  packPa p := p % 64
  packAfc on r ki kp := [(10#4, on.toNat + 2 * (r % 256) + 512 * (ki % 16) + 8192 * (kp % 16))]
  syncSeq w _ t := [(5#4, (w % 2 ^ 24) * 16 + t % 16)]
  synth _ f _ := ([0], (f : Rat))
  kparity kodd khalfodd := (khalfodd, kodd)
  powerOnSeq _ := #v[(1#4, 0x100), (4#4, 0x200), (6#4, 0x300)]
  selRssi := 0x14#5
  selAfc := 0x10#5
  selTemp := 0x08#5
  selVolt := 0x04#5
  selVersion := 0x07#5
  gainCodeLo := 8
  convRssi w := -((w.toNat % 256 : Nat) : Rat)
  convAfc w := (w.toNat : Rat)
  convTemp w := ((w.toNat % 256 : Nat) : Rat)
  convVolt w := ((w.toNat % 256 : Nat) : Rat) / 64
  convVersion w := w.toNat % 16
  gainCorr := Vector.replicate 16 0
  defaults := {
    rxFreq := 437000000, txFreq := 437000000, modIndex := 8, bitrate := 2400, csThreshold := -100, paPower := 63, afcEnable := false, afcRange := 0, afcKi := 0, afcKp := 0
    ifBwClass := 1, trainingBytes := 2, syncWord := 0x1ACFFC1D, syncLen := 24, syncTol := 1, txTimeout := 0, rxTimeout := 0 }
  fwRev := "TI-1"
  ifbwBits := 2
  nvSerialInit := 0xFFFFFFFF#32
  draws := {
    readback := fun _ _ => 0x78#32
    hostPull := fun _ => none
    rat := fun _ => 0
    frameType := fun _ => .short }
  valid := by
    constructor <;> first | decide | (intros; simp)

/-- A `Config` in a wrapper of its own: the default value of its field is what shows Lean that the type of `Config.chosen` is inhabited. -/
structure Config.Chosen where
  config : Config := Config.testInstance
  deriving Inhabited

/-- THE block's parameters and draws: one instance, of which nothing but its validity can be proved. A statement about the machine therefore holds for every instance that meets R6 and for every draw (log entries 1 and 3). -/
opaque Config.chosen : Config.Chosen

/-- The instance every meaning runs under. -/
def Config.actual : Config := Config.chosen.config

end Sys2Proof
end

