-- ==== Sys2Proof/Syntax.lean ====
section
/-! DEFINITION. The commands and events of interface CMD-1 as syntax: one constructor per row of the opcode map (`30_encoding.md` R107), its operands in the order R107 lists them, each at the width its byte form has (R102). -/

namespace Sys2Proof

/-- A RAT operand as its byte form holds it (R102): an s32 numerator (read as two's complement) and a u32 denominator. A denominator of 0 makes the command malformed (R109); `WellFormed.lean` says so and the meanings answer INVALID. -/
structure RatArg where
  num : BitVec 32
  den : BitVec 32
  deriving DecidableEq, Repr

/-- The CVAL(id) operand of CONFIG_SET (R104): which form follows is fixed by the id before it; for an id above 0x10 no value field follows. -/
inductive ConfigArg where
  | absent
  | u8 (b : Byte)
  | u32 (w : Word)
  | rat (q : RatArg)
  deriving DecidableEq, Repr

/-- The commands (main context) and the three events (R107). -/
inductive Instr where
  /-- 0x01 PLAN_CLOCKS xtal, rate, h (R154) -/
  | planClocks (xtal : Word) (rate h : RatArg)
  /-- 0x10 POWER_ON xtal (R171) -/
  | powerOn (xtal : Word)
  /-- 0x11 POWER_OFF (R172) -/
  | powerOff
  /-- 0x12 CONFIGURE_RX rate, h, freq, ifbw (R175) -/
  | configureRx (rate h : RatArg) (freq : Word) (ifbw : Byte)
  /-- 0x13 CONFIGURE_TX rate, h, freq (R176) -/
  | configureTx (rate h : RatArg) (freq : Word)
  /-- 0x14 SET_RX_MODE (R179) -/
  | setRxMode
  /-- 0x15 SET_TX_MODE (R178) -/
  | setTxMode
  /-- 0x16 SET_SYNC_WORD word, len, tol (R180) -/
  | setSyncWord (word : Word) (len tol : Byte)
  /-- 0x17 ENABLE_AFC range, ki, kp (R181) -/
  | enableAfc (range ki kp : Word)
  /-- 0x18 DISABLE_AFC (R182) -/
  | disableAfc
  /-- 0x19 READ_RSSI (R183) -/
  | readRssi
  /-- 0x1A READ_AFC_OFFSET (R184) -/
  | readAfcOffset
  /-- 0x1B READ_TEMPERATURE (R185) -/
  | readTemperature
  /-- 0x1C READ_SUPPLY_VOLTAGE (R186) -/
  | readSupplyVoltage
  /-- 0x1D READ_CHIP_VERSION (R187) -/
  | readChipVersion
  /-- 0x1E RECONFIGURE (R188) -/
  | reconfigure
  /-- 0x1F REG_WRITE v (R189) -/
  | regWrite (v : Word)
  /-- 0x20 REG_READ sel (R190); of the SEL5 byte only bits 4:0 are kept (R102, R110) -/
  | regRead (sel : Selector)
  /-- 0x30 SCR_GENERATE len (R226) -/
  | scrGenerate (len : BitVec 16)
  /-- 0x31 SCR_APPLY data, seq (R227) -/
  | scrApply (data seq : List Byte)
  /-- 0x40 CS_CHECK (R270) -/
  | csCheck
  /-- 0x41 TX_START (R271) -/
  | txStart
  /-- 0x42 RX_DRAIN_BEGIN (R265) -/
  | rxDrainBegin
  /-- 0x43 RX_DRAIN_END (R266) -/
  | rxDrainEnd
  /-- 0x50 CONFIG_GET id (R301) -/
  | configGet (id : Byte)
  /-- 0x51 CONFIG_SET id, v (R300) -/
  | configSet (id : Byte) (v : ConfigArg)
  /-- 0x52 SERIAL_GET (R304) -/
  | serialGet
  /-- 0x53 SERIAL_SET v (R303) -/
  | serialSet (v : Word)
  /-- 0x54 FW_REV_GET (R305) -/
  | fwRevGet
  /-- 0x55 SOFT_RESET (R306) -/
  | softReset
  /-- 0x56 BOOTLOADER_ENTER (R309) -/
  | bootloaderEnter
  /-- 0xE0 EV_SYNC_DETECT (R250) -/
  | evSyncDetect
  /-- 0xE1 EV_BYTE_CLOCK b (R249) -/
  | evByteClock (b : Byte)
  /-- 0xE2 EV_POWER_UP_RESET (R370) -/
  | evPowerUpReset
  deriving DecidableEq, Repr

end Sys2Proof
end

