-- ==== Sys2Proof/WellFormed.lean ====
section
/-! DEFINITION. Which terms of `Instr` have a byte form that is not malformed (`30_encoding.md` R102, R104, R109). -/

namespace Sys2Proof

/-- A RAT operand with den = 0 makes the command malformed (R102, R109). -/
def RatArg.wellFormed (q : RatArg) : Bool := q.den != 0

/-- A BYTES field carries its length in a u16 (R102), so it holds at most 65535 bytes. -/
def bytesWellFormed (l : List Byte) : Bool := l.length < 65536

/-- The value field that follows each CONFIG_SET id (R104): a RAT after 0x02, 0x03, 0x04; a u8 after 0x06; a u32 after the other ids up to 0x10; nothing after 0x11 and the unassigned ids. -/
def ConfigArg.wellFormed (id : Byte) : ConfigArg → Bool
  | .absent => decide (0x10#8 < id)
  | .u8 _ => decide (id = 0x06#8)
  | .u32 _ => decide (id ≤ 0x10#8 ∧ id ≠ 0x02#8 ∧ id ≠ 0x03#8 ∧ id ≠ 0x04#8 ∧ id ≠ 0x06#8)
  | .rat q => decide (id = 0x02#8 ∨ id = 0x03#8 ∨ id = 0x04#8) && q.wellFormed

/-- The well-formed commands and events: no operand is malformed and every operand has a byte form. -/
def Instr.wellFormed : Instr → Bool
  | .planClocks _ rate h => rate.wellFormed && h.wellFormed
  | .powerOn _ => true
  | .powerOff => true
  | .configureRx rate h _ _ => rate.wellFormed && h.wellFormed
  | .configureTx rate h _ => rate.wellFormed && h.wellFormed
  | .setRxMode => true
  | .setTxMode => true
  | .setSyncWord _ _ _ => true
  | .enableAfc _ _ _ => true
  | .disableAfc => true
  | .readRssi => true
  | .readAfcOffset => true
  | .readTemperature => true
  | .readSupplyVoltage => true
  | .readChipVersion => true
  | .reconfigure => true
  | .regWrite _ => true
  | .regRead _ => true
  | .scrGenerate _ => true
  | .scrApply data seq => bytesWellFormed data && bytesWellFormed seq
  | .csCheck => true
  | .txStart => true
  | .rxDrainBegin => true
  | .rxDrainEnd => true
  | .configGet _ => true
  | .configSet id v => v.wellFormed id
  | .serialGet => true
  | .serialSet _ => true
  | .fwRevGet => true
  | .softReset => true
  | .bootloaderEnter => true
  | .evSyncDetect => true
  | .evByteClock _ => true
  | .evPowerUpReset => true

end Sys2Proof
end

