-- ==== Sys2Proof/Decode.lean ====
section
/-! DEFINITION. The byte form of commands and events (`30_encoding.md` R102 to R104, R107, R109): the decoder, total on any bytes, then the encoder, both written from the same tables. -/

namespace Sys2Proof

/-! ### The opcode map (R107) -/

/-- The context an input runs in (R107, R346): the main context, one of the two interrupt contexts, or reset. -/
inductive Context where
  | main
  | syncDetect
  | byteClock
  | reset
  deriving DecidableEq, Repr

/-- The opcode of each command and event (R107). -/
def Instr.opcode : Instr → Byte
  | .planClocks _ _ _ => 0x01#8
  | .powerOn _ => 0x10#8
  | .powerOff => 0x11#8
  | .configureRx _ _ _ _ => 0x12#8
  | .configureTx _ _ _ => 0x13#8
  | .setRxMode => 0x14#8
  | .setTxMode => 0x15#8
  | .setSyncWord _ _ _ => 0x16#8
  | .enableAfc _ _ _ => 0x17#8
  | .disableAfc => 0x18#8
  | .readRssi => 0x19#8
  | .readAfcOffset => 0x1A#8
  | .readTemperature => 0x1B#8
  | .readSupplyVoltage => 0x1C#8
  | .readChipVersion => 0x1D#8
  | .reconfigure => 0x1E#8
  | .regWrite _ => 0x1F#8
  | .regRead _ => 0x20#8
  | .scrGenerate _ => 0x30#8
  | .scrApply _ _ => 0x31#8
  | .csCheck => 0x40#8
  | .txStart => 0x41#8
  | .rxDrainBegin => 0x42#8
  | .rxDrainEnd => 0x43#8
  | .configGet _ => 0x50#8
  | .configSet _ _ => 0x51#8
  | .serialGet => 0x52#8
  | .serialSet _ => 0x53#8
  | .fwRevGet => 0x54#8
  | .softReset => 0x55#8
  | .bootloaderEnter => 0x56#8
  | .evSyncDetect => 0xE0#8
  | .evByteClock _ => 0xE1#8
  | .evPowerUpReset => 0xE2#8

/-- The context column of R107. -/
def Instr.context : Instr → Context
  | .evSyncDetect => .syncDetect
  | .evByteClock _ => .byteClock
  | .evPowerUpReset => .reset
  | .planClocks _ _ _ => .main
  | .powerOn _ => .main
  | .powerOff => .main
  | .configureRx _ _ _ _ => .main
  | .configureTx _ _ _ => .main
  | .setRxMode => .main
  | .setTxMode => .main
  | .setSyncWord _ _ _ => .main
  | .enableAfc _ _ _ => .main
  | .disableAfc => .main
  | .readRssi => .main
  | .readAfcOffset => .main
  | .readTemperature => .main
  | .readSupplyVoltage => .main
  | .readChipVersion => .main
  | .reconfigure => .main
  | .regWrite _ => .main
  | .regRead _ => .main
  | .scrGenerate _ => .main
  | .scrApply _ _ => .main
  | .csCheck => .main
  | .txStart => .main
  | .rxDrainBegin => .main
  | .rxDrainEnd => .main
  | .configGet _ => .main
  | .configSet _ _ => .main
  | .serialGet => .main
  | .serialSet _ => .main
  | .fwRevGet => .main
  | .softReset => .main
  | .bootloaderEnter => .main

/-- An event: delivered by the RF chip or the power supply, never by the host (R111). -/
def Instr.isEvent (i : Instr) : Bool := i.context != .main

/-! ### Reading operands (R102) -/

/-- Why the bytes are no command (R109). -/
inductive DecodeError where
  /-- the opcode is not listed in R107 -/
  | unassigned (opcode : Byte)
  /-- the byte form ends before its last operand (or there is no byte at all) -/
  | truncated
  deriving DecidableEq, Repr

/-- A reader takes its operand from the front of the bytes and leaves the rest; none where the bytes end too early. -/
abbrev Reader (α : Type) := List Byte → Option (α × List Byte)

/-- u8 (R102). -/
def readU8 : Reader Byte
  | b :: r => some (b, r)
  | [] => none

/-- u16, big-endian (R102). -/
def readU16 : Reader (BitVec 16)
  | b1 :: b0 :: r => some (b1 ++ b0, r)
  | _ => none

/-- u32, big-endian: bits[31:24] first (R102). -/
def readU32 : Reader Word
  | b3 :: b2 :: b1 :: b0 :: r => some (b3 ++ b2 ++ b1 ++ b0, r)
  | _ => none

/-- SEL5: bits[4:0] of the byte; bits[7:5] are masked off and ignored (R102, R110). -/
def readSel : Reader Selector
  | b :: r => some (b.setWidth 5, r)
  | [] => none

/-- RAT: num s32 big-endian, then den u32 big-endian (R102). -/
def readRat : Reader RatArg := fun l =>
  match readU32 l with
  | none => none
  | some (num, l1) =>
    match readU32 l1 with
    | none => none
    | some (den, l2) => some (⟨num, den⟩, l2)

/-- BYTES: a u16 big-endian length L, then L bytes (R102). -/
def readBytes : Reader (List Byte) := fun l =>
  match readU16 l with
  | none => none
  | some (n, r) => if n.toNat ≤ r.length then some (r.take n.toNat, r.drop n.toNat) else none

/-- CVAL(id) (R104). -/
def readCval (id : Byte) : Reader ConfigArg := fun l =>
  if 0x10#8 < id then some (.absent, l)
  else if id = 0x02#8 ∨ id = 0x03#8 ∨ id = 0x04#8 then (readRat l).map fun (q, r) => (.rat q, r)
  else if id = 0x06#8 then (readU8 l).map fun (b, r) => (.u8 b, r)
  else (readU32 l).map fun (w, r) => (.u32 w, r)

/-! ### Decoding (R103, R107, R109) -/

/-- A command without operands. -/
def operandsNone (i : Instr) : Reader Instr := fun l => some (i, l)

/-- The operand fields of a command, read in the order of R107; outer none: the opcode is unassigned. -/
def operandReader (op : Byte) : Option (Reader Instr) :=
  match op.toNat with
  | 0x01 => some fun l => do
      let (xtal, l) ← readU32 l
      let (rate, l) ← readRat l
      let (h, l) ← readRat l
      return (.planClocks xtal rate h, l)
  | 0x10 => some fun l => do
      let (xtal, l) ← readU32 l
      return (.powerOn xtal, l)
  | 0x11 => some (operandsNone .powerOff)
  | 0x12 => some fun l => do
      let (rate, l) ← readRat l
      let (h, l) ← readRat l
      let (freq, l) ← readU32 l
      let (ifbw, l) ← readU8 l
      return (.configureRx rate h freq ifbw, l)
  | 0x13 => some fun l => do
      let (rate, l) ← readRat l
      let (h, l) ← readRat l
      let (freq, l) ← readU32 l
      return (.configureTx rate h freq, l)
  | 0x14 => some (operandsNone .setRxMode)
  | 0x15 => some (operandsNone .setTxMode)
  | 0x16 => some fun l => do
      let (word, l) ← readU32 l
      let (len, l) ← readU8 l
      let (tol, l) ← readU8 l
      return (.setSyncWord word len tol, l)
  | 0x17 => some fun l => do
      let (range, l) ← readU32 l
      let (ki, l) ← readU32 l
      let (kp, l) ← readU32 l
      return (.enableAfc range ki kp, l)
  | 0x18 => some (operandsNone .disableAfc)
  | 0x19 => some (operandsNone .readRssi)
  | 0x1A => some (operandsNone .readAfcOffset)
  | 0x1B => some (operandsNone .readTemperature)
  | 0x1C => some (operandsNone .readSupplyVoltage)
  | 0x1D => some (operandsNone .readChipVersion)
  | 0x1E => some (operandsNone .reconfigure)
  | 0x1F => some fun l => do
      let (v, l) ← readU32 l
      return (.regWrite v, l)
  | 0x20 => some fun l => do
      let (sel, l) ← readSel l
      return (.regRead sel, l)
  | 0x30 => some fun l => do
      let (len, l) ← readU16 l
      return (.scrGenerate len, l)
  | 0x31 => some fun l => do
      let (data, l) ← readBytes l
      let (seq, l) ← readBytes l
      return (.scrApply data seq, l)
  | 0x40 => some (operandsNone .csCheck)
  | 0x41 => some (operandsNone .txStart)
  | 0x42 => some (operandsNone .rxDrainBegin)
  | 0x43 => some (operandsNone .rxDrainEnd)
  | 0x50 => some fun l => do
      let (id, l) ← readU8 l
      return (.configGet id, l)
  | 0x51 => some fun l => do
      let (id, l) ← readU8 l
      let (v, l) ← readCval id l
      return (.configSet id v, l)
  | 0x52 => some (operandsNone .serialGet)
  | 0x53 => some fun l => do
      let (v, l) ← readU32 l
      return (.serialSet v, l)
  | 0x54 => some (operandsNone .fwRevGet)
  | 0x55 => some (operandsNone .softReset)
  | 0x56 => some (operandsNone .bootloaderEnter)
  | 0xE0 => some (operandsNone .evSyncDetect)
  | 0xE1 => some fun l => do
      let (b, l) ← readU8 l
      return (.evByteClock b, l)
  | 0xE2 => some (operandsNone .evPowerUpReset)
  | _ => none

/-- Decode the first command or event of the bytes: the instruction and the bytes after its last operand, where the next one starts (R103, R109). A RAT operand with den = 0 is read as it stands: it is malformed (`Instr.wellFormed`), and the meanings answer INVALID to it. -/
def decode : List Byte → Except DecodeError (Instr × List Byte)
  | [] => .error .truncated
  | op :: l =>
    match operandReader op with
    | none => .error (.unassigned op)
    | some rd =>
      match rd l with
      | none => .error .truncated
      | some r => .ok r

/-! ### Encoding -/

/-- u16 as two bytes, big-endian (R102). -/
def putU16 (v : BitVec 16) : List Byte := [v.extractLsb' 8 8, v.extractLsb' 0 8]

/-- u32 as four bytes, bits[31:24] first (R102). -/
def putU32 (v : Word) : List Byte := [v.extractLsb' 24 8, v.extractLsb' 16 8, v.extractLsb' 8 8, v.extractLsb' 0 8]

/-- SEL5 as one byte, bits[7:5] zero (R102). -/
def putSel (s : Selector) : List Byte := [s.setWidth 8]

/-- RAT as num, then den (R102). -/
def putRat (q : RatArg) : List Byte := putU32 q.num ++ putU32 q.den

/-- BYTES as a u16 length, then the bytes (R102). -/
def putBytes (l : List Byte) : List Byte := putU16 (BitVec.ofNat 16 l.length) ++ l

/-- CVAL(id) (R104). -/
def putCval : ConfigArg → List Byte
  | .absent => []
  | .u8 b => [b]
  | .u32 w => putU32 w
  | .rat q => putRat q

/-- The operand fields in the order of R107. -/
def Instr.operandBytes : Instr → List Byte
  | .planClocks xtal rate h => putU32 xtal ++ putRat rate ++ putRat h
  | .powerOn xtal => putU32 xtal
  | .powerOff => []
  | .configureRx rate h freq ifbw => putRat rate ++ putRat h ++ putU32 freq ++ [ifbw]
  | .configureTx rate h freq => putRat rate ++ putRat h ++ putU32 freq
  | .setRxMode => []
  | .setTxMode => []
  | .setSyncWord word len tol => putU32 word ++ [len, tol]
  | .enableAfc range ki kp => putU32 range ++ putU32 ki ++ putU32 kp
  | .disableAfc => []
  | .readRssi => []
  | .readAfcOffset => []
  | .readTemperature => []
  | .readSupplyVoltage => []
  | .readChipVersion => []
  | .reconfigure => []
  | .regWrite v => putU32 v
  | .regRead sel => putSel sel
  | .scrGenerate len => putU16 len
  | .scrApply data seq => putBytes data ++ putBytes seq
  | .csCheck => []
  | .txStart => []
  | .rxDrainBegin => []
  | .rxDrainEnd => []
  | .configGet id => [id]
  | .configSet id v => id :: putCval v
  | .serialGet => []
  | .serialSet v => putU32 v
  | .fwRevGet => []
  | .softReset => []
  | .bootloaderEnter => []
  | .evSyncDetect => []
  | .evByteClock b => [b]
  | .evPowerUpReset => []

/-- The byte form: byte 0 is the opcode, then the operands, with no padding (R103). -/
def encode (i : Instr) : List Byte := i.opcode :: i.operandBytes

/-! ### The opcode table's numbering -/

/-- Byte k of a number whose bit 0 is the least significant bit of the first byte: bits 8k+7 to 8k. -/
def byteOfNat (w k : Nat) : Byte := BitVec.ofNat 8 (w >>> (8 * k))

/-- The first `n` bytes of such a number. -/
def bytesOfNat (w : Nat) : Nat → List Byte
  | 0 => []
  | n + 1 => bytesOfNat w n ++ [byteOfNat w n]

/-- The length in bytes of the longest command of fixed length: CONFIGURE_RX (R107; `opcode_table.json` length_bytes 22). -/
def maxFixedLength : Nat := 22

/-- How many bytes of zero-extended `l` the command at its front may need: 22 for every command of fixed length; for SCR_APPLY the two BYTES fields, whose lengths stand in the bytes themselves. -/
def neededLength (l : List Byte) : Nat :=
  let at' := fun k => l.getD k 0#8
  if at' 0 = 0x31#8 then
    let n1 := (at' 1 ++ at' 2 : BitVec 16).toNat
    let n2 := (at' (3 + n1) ++ at' (4 + n1) : BitVec 16).toNat
    5 + n1 + n2
  else maxFixedLength

/-- `l` with zero bytes after it, up to the length its command needs. -/
def padZeros (l : List Byte) : List Byte := l ++ List.replicate (neededLength l - l.length) 0#8

/-- The bytes of the one command whose bits are `w`, numbered as the opcode table numbers them (`nbits` of them given, every bit above zero), first byte first; what follows the command is cut off. -/
def tableWordBytes (nbits w : Nat) : List Byte :=
  let l := padZeros (bytesOfNat (w % 2 ^ nbits) ((nbits + 7) / 8))
  match decode l with
  | .ok (_, rest) => l.take (l.length - rest.length)
  | .error _ => l

/-- The instruction the decoder reads from an opcode-table word; none where it refuses. -/
def decodeTableWord (nbits w : Nat) : Option Instr :=
  match decode (tableWordBytes nbits w) with
  | .ok (i, _) => some i
  | .error _ => none

end Sys2Proof
end

