-- ==== Sys2Proof/Machine/State.lean ====
section
/-! DEFINITION. The state of the block as plain data (`10_state.md`), grouped by the component that owns it, then the fields the spec gives the model (R49) and the model's own; the reasons a step can stop; the state after a power-up reset (R60, R370). -/

namespace Sys2Proof.Machine

/-- Why a step stops in a fault (R333): each `raise Fault(F_x)` of the spec is one constructor, and `noRule` is the model's own. Every one of them is SAFE: a run that faults has no successor, so nothing can be proved of what follows it. -/
inductive Fault where
  /-- F_RANGE: a non-positive xtal, data rate, modulation index or frequency (PLAN_CLOCKS, POWER_ON, CONFIGURE_RX, CONFIGURE_TX, RECONFIGURE); a payload index outside 0..MAX-1; a host TX frame longer than MAX (TX_START). Safe. -/
  | range
  /-- F_BUS_OFF: a bus exchange while mode = Off; raised by every command with a BusWrite or BusRead but POWER_ON (R173). Safe. -/
  | busOff
  /-- F_NO_PLAN: a mode switch with no plan for its direction (SET_RX_MODE, SET_TX_MODE, RECONFIGURE, TX_START). Safe. -/
  | noPlan
  /-- F_MODE_MID_FRAME: a mode transition while a frame is in progress (POWER_ON, SET_RX_MODE, SET_TX_MODE, RECONFIGURE). Safe. -/
  | modeMidFrame
  /-- F_UNWRITTEN: a read of a payload cell that holds none (R61); raised by a TX body byte and RX_DRAIN_BEGIN. Safe. -/
  | unwritten
  /-- F_SEQ_SHORT: SCR_APPLY with a sequence shorter than its data (R223). Safe. -/
  | seqShort
  /-- The model's own (log entry 11): the spec has no rule for the step in this state, which the invariants of R50 and their consequences exclude (a mode switch that finds nothing staged for an address of its sequence; a byte event whose sub-state and counters match no rule). Raised by SET_RX_MODE, SET_TX_MODE, RECONFIGURE, TX_START and EV_BYTE_CLOCK. Safe. -/
  | noRule
  deriving DecidableEq, Repr

/-- Why a step is refused. -/
inductive Refusal where
  /-- refuse(BOOTLOADER) (R334): raised by BOOTLOADER_ENTER alone (R309). Safe: no later step is defined. -/
  | bootloader
  /-- No meaning yet for the instruction with this mnemonic; no arm of `exec` answers it. Safe. -/
  | notModelled (mnemonic : String)
  deriving DecidableEq, Repr

/-- OperatingMode (R25). -/
inductive Mode where
  | off
  | idle
  | receiving
  | transmitting
  deriving DecidableEq, Repr

/-- The RX sub-state (R39). -/
inductive RxState where
  | idle
  | armed
  | preamble
  | body
  deriving DecidableEq, Repr

/-- The TX sub-state (R40). -/
inductive TxState where
  | idle
  | training
  | preamble
  | body
  deriving DecidableEq, Repr

/-- The status codes (R106). -/
inductive Status where
  | ok
  | denied
  | planFail
  | noFrame
  | busy
  | invalid
  | txDropped
  deriving DecidableEq, Repr

/-- The named outcomes `Emit` records (R70). -/
inductive Notice where
  | rxComplete
  | rxRejected
  | rxOverrun
  | txComplete
  | txDropped
  | csDenied
  | planFail
  deriving DecidableEq, Repr

/-- RxRecord: what HostPush passes and RX_DRAIN_BEGIN returns (R118). -/
structure RxRecord where
  size : Nat
  rssi : Rat
  freq : Rat
  flags : Byte
  payload : List Byte
  deriving DecidableEq, Repr

/-- The record `plan_clocks` gives (R153). -/
structure PlannerResult where
  dev : Nat
  fdev : Rat
  k : Nat
  demClkDivide : Nat
  cdrClkDivide : Nat
  discBw : Nat
  realDataRate : Rat
  postDemodBw : Nat
  realModIndex : Rat
  rxInvert : Bool
  dotProduct : Bool
  deriving DecidableEq, Repr

/-- A value of a CFG field, of the field's type (R35, R104). -/
inductive ConfigValue where
  | nat (n : Nat)
  | rat (q : Rat)
  | bool (b : Bool)
  | byte (b : Byte)
  deriving DecidableEq, Repr

/-- The result a command returns beside its status (R105, R107). -/
inductive Result where
  | plan (r : PlannerResult)
  | rat (q : Rat)
  | nat (n : Nat)
  | word (w : Word)
  | bytes (l : List Byte)
  | bool (b : Bool)
  | record (r : RxRecord)
  | value (v : ConfigValue)
  | text (t : String)
  deriving DecidableEq, Repr

/-- What a command returns: exactly one status and, for some, a result (R100, R106). -/
structure Reply where
  status : Status
  result : Option Result
  deriving DecidableEq, Repr

/-- An event of the history (R70). -/
inductive Event where
  | busWrite (v : Word)
  | busRead (sel : Selector) (v : Word)
  | hostPull (answer : Option (List Byte))
  | hostPush (r : RxRecord)
  | txOut (b : Byte)
  | rxIn (b : Byte)
  | syncEdge
  | byteClock
  | setTr (v : Bool)
  | setCe (v : Bool)
  | emit (n : Notice)
  deriving DecidableEq, Repr

/-- Which agent delivers an input (R13, R111): the host sends commands; events come from the RF chip, or from the supply (EV_POWER_UP_RESET). -/
inductive Source where
  | host
  | event
  deriving DecidableEq, Repr

/-- Bytes delivered together by one agent: one or more commands (or events) in the byte form of R103, one after the other. -/
structure Packet where
  source : Source
  bytes : List Byte
  deriving DecidableEq, Repr

/-- A payload memory: the cells that hold a byte, addresses strictly rising. A cell that is not listed holds none (R37, R61). -/
abbrev Memory := List Host.Cell

/-- One FrameBuffer (R37). -/
structure FrameBuffer where
  size : Nat
  progress : Nat
  rssi : Rat
  freq : Rat
  flags : Byte
  trainingRemaining : Nat
  payload : Memory
  deriving DecidableEq, Repr

/-- A staged register image: each of the 16 addresses holds a word or none (R20, R22). -/
abbrev Image := Vector (Option Word) 16

/-- The state of the block. -/
structure State where
  /-- RadioController: the operating mode (R25) -/
  mode : Mode
  /-- the crystal frequency in Hz the planner uses (R26) -/
  xtalHz : Nat
  /-- plan[RX], plan[TX] (R27) -/
  planRx : Option ChannelPlan
  planTx : Option ChannelPlan
  /-- plan_error[RX], plan_error[TX] (R28) -/
  planErrorRx : Bool
  planErrorTx : Bool
  /-- the staged images and the SystemConfig registers (R22, R33) -/
  stageRx : Image
  stageTx : Image
  sys : Image
  /-- the "PA warmed up" flag (R29) -/
  paWarm : Bool
  /-- the outputs: T/R switch (true = transmit) and chip enable (R30) -/
  trsw : Bool
  ce : Bool
  /-- the AFC loop last programmed (R31) -/
  afcOn : Bool
  afcActive : Option AfcSettings
  /-- the sync word last programmed (R32) -/
  syncActive : SyncSettings
  /-- the configuration record CFG (R34, R35) -/
  cfg : ConfigRecord
  /-- FrameEngine: the two frame buffers (R37) and the index of the front one (R38) -/
  buf : Vector FrameBuffer 2
  front : Fin 2
  /-- the sub-states (R39, R40) -/
  rxState : RxState
  txState : TxState
  /-- working registers (R41) -/
  rxErr : Nat
  ftype : FrameType
  preIdx : Nat
  /-- the interrupt enables (R42) -/
  syncArmed : Bool
  byteclkEn : Bool
  /-- the carrier-sense quarantine counter (R43) -/
  quarantine : Nat
  /-- set between RX_DRAIN_BEGIN and RX_DRAIN_END (R44) -/
  drainPending : Bool
  /-- the device serial number, in the non-volatile store (R45) -/
  serial : Word
  /-- the spec's bookkeeping for the model (R49): fault reasons, refusal, history -/
  faults : List Fault
  refused : Bool
  history : List Event
  /-- the model's own (log entry 2): what the agents outside deliver next, in order -/
  inputs : List Packet
  /-- the model's own (log entry 3): how many draws were taken -/
  drawCount : Nat
  /-- the model's own (log entry 7): what the last command returned -/
  reply : Option Reply
  deriving DecidableEq, Repr

/-- An image with nothing staged. -/
def Image.empty : Image := Vector.replicate 16 none

/-- A buffer after reset, with the rssi and freq given (R60). -/
def FrameBuffer.cleared (rssi freq : Rat) : FrameBuffer :=
  { size := 0, progress := 0, rssi := rssi, freq := freq, flags := 0x00#8, trainingRemaining := 0, payload := [] }

/-- The state a power-up reset produces under the instance `c`, with an empty history and nothing delivered yet (R60, R370). `rssi`, `freq` and `ftype`, which R60 leaves unspecified, are 0, 0 and SHORT here (DESIGN CHOICE, log entry 8: never read before they are written). -/
def State.resetOf (c : Config) : State where
  mode := .off
  xtalHz := c.xtalDefault
  planRx := none
  planTx := none
  planErrorRx := false
  planErrorTx := false
  stageRx := Image.empty
  stageTx := Image.empty
  sys := Image.empty
  paWarm := false
  trsw := false
  ce := false
  afcOn := false
  afcActive := none
  syncActive := ⟨c.defaults.syncWord, c.defaults.syncLen, c.defaults.syncTol⟩
  cfg := c.defaults
  buf := #v[FrameBuffer.cleared 0 0, FrameBuffer.cleared 0 0]
  front := 0
  rxState := .idle
  txState := .idle
  rxErr := 0
  ftype := .short
  preIdx := 0
  syncArmed := false
  byteclkEn := false
  quarantine := 0
  drainPending := false
  serial := c.nvSerialInit
  faults := []
  refused := false
  history := []
  inputs := []
  drawCount := 0
  reply := none

/-- The machine right after reset (R60, R370). -/
def State.reset : State := State.resetOf Config.actual

end Sys2Proof.Machine
end

