-- ==== Sys2Proof/Machine/Operands.lean ====
section
/-! DEFINITION. The operand forms and the bit-level helpers: the value of each operand type (R102), register synthesis (R21, R112, R170), the wire order of a bus exchange (R72, R113), the Hamming distance (R8). -/

namespace Sys2Proof.Machine

/-- The value of a RAT operand: num / den, num read as two's complement (R102). -/
def ratValue (q : RatArg) : Rat := (q.num.toInt : Rat) / (q.den.toNat : Rat)

/-- A malformed RAT operand: den = 0 (R102, R109). -/
def ratMalformed (q : RatArg) : Bool := q.den == 0#32

/-- The bit of the AFC_ENABLE value field that is stored: bit 0; bits[7:1] are masked off (R104). -/
def afcEnableBit (b : Byte) : Bool := b.getLsbD 0

/-- The DIR operand type (R102): 0x00 = rx, 0x01 = tx; any other byte is malformed. No opcode of R107 takes a DIR; DIRECTION_SWITCH (R308) does. -/
def dirOfByte (b : Byte) : Option Dir :=
  if b = 0x00#8 then some .rx else if b = 0x01#8 then some .tx else none

/-- staged(a, p) = p[27:0] * 16 + a[3:0] (R170): the address field is re-derived from the target register (R21). -/
def staged (a : RegAddr) (p : Nat) : Word := BitVec.ofNat 28 p ++ a

/-- The address field of a RegisterValue: bits[3:0] (R20, R112). -/
def addrOf (v : Word) : RegAddr := v.setWidth 4

/-- The payload field of a RegisterValue: bits[31:4] (R20, R112). -/
def payloadOf (v : Word) : BitVec 28 := v.extractLsb' 4 28

/-- The bytes of one bus exchange in wire order: v[31:24] first (R72, R113). -/
def wireBytes (v : Word) : List Byte := [v.extractLsb' 24 8, v.extractLsb' 16 8, v.extractLsb' 8 8, v.extractLsb' 0 8]

/-- The bits of one byte in wire order: the most significant first (R72). -/
def byteBits (b : Byte) : List Bool :=
  [b.getLsbD 7, b.getLsbD 6, b.getLsbD 5, b.getLsbD 4, b.getLsbD 3, b.getLsbD 2, b.getLsbD 1, b.getLsbD 0]

/-- The 32 bits of one bus exchange in wire order (R72, R113). -/
def wireBits (v : Word) : List Bool := (wireBytes v).flatMap byteBits

/-- popcount(v) of a byte (R8). -/
def popcount (b : Byte) : Nat := (byteBits b).count true

/-- hd(a, b) = popcount(a ⊕ b) (R8). -/
def hd (a b : Byte) : Nat := popcount (a ^^^ b)

/-- GAIN_CODE(w): the 4-bit gain code of an RSSI readback, at its OPEN position (R114, R183). -/
def gainCode (c : Config) (w : Word) : BitVec 4 := w.extractLsb' c.gainCodeLo 4

/-- An IF bandwidth class masked to IFBW_BITS (R175). -/
def maskIfbw (c : Config) (n : Nat) : Nat := n % 2 ^ c.ifbwBits

end Sys2Proof.Machine
end

