-- ==== Sys2Proof/Machine/Flags.lean ====
section
/-! DEFINITION. The block has no arithmetic condition codes (R47). Its flags are here: the READY bit of a buffer's flags byte (R116), the predicates of R173, the STATUS byte (R35) and the numbers of the status codes (R106). -/

namespace Sys2Proof.Machine

/-- READY: bit 0 of a buffer's flags byte (R37, R116). -/
def FrameBuffer.ready (b : FrameBuffer) : Bool := b.flags.getLsbD 0

/-- flags[0] <- 1 (R255). -/
def setReady (f : Byte) : Byte := f ||| 0x01#8

/-- flags[0] <- 0 (R266). -/
def clearReady (f : Byte) : Byte := f &&& 0xFE#8

/-- bus_ok ≡ mode ≠ Off (R173). -/
def busOk (s : State) : Bool := s.mode != .off

/-- between_frames ≡ rx_state = RX_IDLE ∧ tx_state = TX_IDLE (R173). -/
def betweenFrames (s : State) : Bool := s.rxState == .idle && s.txState == .idle

/-- dir(mode): RX for Receiving, TX for Transmitting, none for Off and Idle (R173). -/
def dirOf : Mode → Option Dir
  | .off => none
  | .idle => none
  | .receiving => some .rx
  | .transmitting => some .tx

/-- CFG id 0x11, STATUS: bit 0 plan_error[RX], bit 1 plan_error[TX], bits 7:2 = 0 (R35, R301). -/
def statusByte (s : State) : Byte :=
  (if s.planErrorRx then 0x01#8 else 0x00#8) + (if s.planErrorTx then 0x02#8 else 0x00#8)

/-- The number of each status code (R106). -/
def statusCode : Status → Nat
  | .ok => 0
  | .denied => 1
  | .planFail => 2
  | .noFrame => 3
  | .busy => 4
  | .invalid => 5
  | .txDropped => 6

end Sys2Proof.Machine
end

