-- ==== Sys2Proof/Machine/Ops.lean ====
section
/-! DEFINITION. The named operations over registers, memory and outputs that the meanings share: the external-effect primitives of R10, payload memory (R37, R61, R77), the staged images (R22), the buffers by role (R9), taking an interrupt event (R249, R341, R343, R344) and the fields a reset sets (R60). -/

namespace Sys2Proof.Machine

/-! ### Outcomes -/

/-- The outcome of a step: a fault discards the step's writes and events (R11, R333). -/
def finish : Except Fault State → Host.Outcome State Fault Refusal
  | .ok s => .next s
  | .error f => .fault f

/-- `status <- st`, `result <- res` (R11): what the command returns to the host (R100, R106). -/
def answer (st : Status) (res : Option Result) (s : State) : State := { s with reply := some ⟨st, res⟩ }

/-- The normal return of a command the block does not take: INVALID changes no state and records no event (R106, R109). -/
def answerInvalid (s : State) : State := answer .invalid none s

/-- The faulted state of R333: the step's writes and events are discarded, the reason is added to `faults`. -/
def raiseFault (f : Fault) (s : State) : State := { s with faults := f :: s.faults }

/-- The refused state of R334. -/
def markRefused (s : State) : State := { s with refused := true }

/-! ### The history and the draws (R10, R70) -/

/-- Append one event to the history (R70). -/
def record (e : Event) (s : State) : State := { s with history := s.history ++ [e] }

/-- `Emit(n)` (R10). -/
def emit (n : Notice) (s : State) : State := record (.emit n) s

/-- `BusWrite(v)` (R10, R72). -/
def busWrite (v : Word) (s : State) : State := record (.busWrite v) s

/-- One draw was taken. -/
def countDraw (s : State) : State := { s with drawCount := s.drawCount + 1 }

/-- The word the next `BusRead(sel)` returns: a draw from the RF chip (R73). -/
def nextReadback (c : Config) (sel : Selector) (s : State) : Word := c.draws.readback s.drawCount sel

/-- `BusRead(sel)`: the word drawn, and the state with the event recorded (R10, R73). -/
def busRead (c : Config) (sel : Selector) (s : State) : Word × State :=
  let w := nextReadback c sel s
  (w, countDraw (record (.busRead sel w) s))

/-- `HostPull()`: the host's answer, a draw, and the state with the event recorded (R10, R117). -/
def hostPull (c : Config) (s : State) : Option (List Byte) × State :=
  let a := c.draws.hostPull s.drawCount
  (a, countDraw (record (.hostPull a) s))

/-- An rssi or freq value the spec calls a draw (R265, in mode Off): no bus event. -/
def drawRat (c : Config) (s : State) : Rat × State := (c.draws.rat s.drawCount, countDraw s)

/-- `SetTR(v); trsw <- v` (R10, R30). -/
def driveTr (v : Bool) (s : State) : State := { record (.setTr v) s with trsw := v }

/-- `ce <- v; SetCE(v)` (R10, R30). -/
def driveCe (v : Bool) (s : State) : State := { record (.setCe v) s with ce := v }

/-- `if trsw = 1 then SetTR(0); trsw <- 0` (R171, R172, R371). -/
def releaseTr (s : State) : State := if s.trsw then driveTr false s else s

/-! ### Register images (R22) -/

/-- The value staged at an address, or none. -/
def imageAt (m : Image) (a : RegAddr) : Option Word := m[a.toNat]

/-- The image with `v` at `a`. -/
def imageSet (m : Image) (a : RegAddr) (v : Word) : Image := m.set a.toNat (some v)

/-- stage_rx or stage_tx (R22). -/
def stageOf (s : State) : Dir → Image
  | .rx => s.stageRx
  | .tx => s.stageTx

/-- `BusWrite(stage[a])`. Where nothing is staged at `a` there is no value to write, and no rule: the invariants exclude it (log entry 11). -/
def writeStaged (m : Image) (a : RegAddr) (s : State) : Except Fault State :=
  match imageAt m a with
  | some v => .ok (busWrite v s)
  | none => .error .noRule

/-- `for (a, p) in seq, in order: v <- staged(a, p); BusWrite(v); sys[a] <- v` (R171, R180 to R182). -/
def writeSys : List (RegAddr × Nat) → State → State
  | [], s => s
  | (a, p) :: rest, s =>
    let v := staged a p
    writeSys rest { busWrite v s with sys := imageSet s.sys a v }

/-! ### Payload memory (R37, R61, R77) -/

/-- The canonical form: addresses strictly rising. -/
abbrev Memory.wf (m : Memory) : Prop := m.Pairwise fun x y => x.1 < y.1

/-- The byte at an address, or none where nothing is listed. -/
def Memory.read : Memory → Nat → Option Byte
  | [], _ => none
  | (k, b) :: m, a => if k = a then some b else Memory.read m a

/-- Write a byte, keeping the canonical form. -/
def Memory.write : Memory → Nat → Byte → Memory
  | [], a, b => [(a, b)]
  | (k, v) :: m, a, b =>
    if a < k then (a, b) :: (k, v) :: m
    else if a = k then (a, b) :: m
    else (k, v) :: Memory.write m a b

/-- Write bytes at an address and the ones after it. -/
def Memory.writeAll : Memory → Nat → List Byte → Memory
  | m, _, [] => m
  | m, a, b :: bs => Memory.writeAll (Memory.write m a b) (a + 1) bs

/-- A payload read: an index outside 0..MAX-1 is F_RANGE (R77), a cell that holds none is F_UNWRITTEN (R61). -/
def readPayload (c : Config) (m : Memory) (a : Nat) : Except Fault Byte :=
  if a < c.maxPayload then
    match Memory.read m a with
    | some b => .ok b
    | none => .error .unwritten
  else .error .range

/-- A payload write: an index outside 0..MAX-1 is F_RANGE (R77). -/
def writePayload (c : Config) (m : Memory) (a : Nat) (b : Byte) : Except Fault Memory :=
  if a < c.maxPayload then .ok (Memory.write m a b) else .error .range

/-- `n` payload bytes from address `a` on, in order (R118). -/
def readPayloadFrom (c : Config) (m : Memory) : Nat → Nat → Except Fault (List Byte)
  | _, 0 => .ok []
  | a, n + 1 =>
    match readPayload c m a with
    | .error f => .error f
    | .ok b =>
      match readPayloadFrom c m (a + 1) n with
      | .error f => .error f
      | .ok bs => .ok (b :: bs)

/-! ### The two frame buffers by role (R9, R38) -/

/-- The index of the back buffer, 1 - front (R38). -/
def backIndex (s : State) : Fin 2 := 1 - s.front

/-- F = buf[front] (R9). -/
def frontBuf (s : State) : FrameBuffer := s.buf[s.front]

/-- B = buf[1 - front] (R9). -/
def backBuf (s : State) : FrameBuffer := s.buf[backIndex s]

/-- Write the front buffer. -/
def setFrontBuf (b : FrameBuffer) (s : State) : State := { s with buf := s.buf.set s.front b }

/-- Write the back buffer. -/
def setBackBuf (b : FrameBuffer) (s : State) : State := { s with buf := s.buf.set (backIndex s) b }

/-! ### Taking an interrupt event -/

/-- Taking an interrupt event (R249, R340, R341, R343, R344). If its enable is 1 the one handler of its source runs, as one step; entry saves nothing and return restores nothing. If its enable is 0 the event is lost: no state changes and no event is recorded. -/
def takeEvent (enabled : Bool) (handler : State → Except Fault State) (s : State) : Except Fault State :=
  if enabled then handler s else .ok s

/-! ### Reset (R60, R370, R371) -/

/-- Every field of R60 at its reset value, but `serial`, `faults`, `refused` and `history`, which are kept (R370, R371). The values R60 leaves unspecified (rssi and freq of both buffers, ftype) are draws. What agents outside will deliver and what the last command returned are not the device's and are kept. -/
def clearState (c : Config) (s : State) : State :=
  { State.resetOf c with
    buf := #v[FrameBuffer.cleared (c.draws.rat s.drawCount) (c.draws.rat (s.drawCount + 1)), FrameBuffer.cleared (c.draws.rat (s.drawCount + 2)) (c.draws.rat (s.drawCount + 3))]
    ftype := c.draws.frameType (s.drawCount + 4)
    serial := s.serial
    faults := s.faults
    refused := s.refused
    history := s.history
    inputs := s.inputs
    drawCount := s.drawCount + 5
    reply := s.reply }

end Sys2Proof.Machine
end

