-- ==== Sys2Proof/Machine/Planner.lean ====
section
/-! DEFINITION. The clock planner and FSK modulation-index calculator (`40_clock_planner.md` R140 to R154), in exact rationals, and PLAN_CLOCKS. -/

namespace Sys2Proof.Machine

/-- `round(x) = floor(x + 1/2)`: half up (R140). -/
def roundHalfUp (x : Rat) : Int := (x + 1 / 2).floor

/-- `round` of a value that is not negative, as a Nat. -/
def roundNat (x : Rat) : Nat := (roundHalfUp x).toNat

/-- DEM_MIN to DEM_MAX, in increasing order (R6, R146). -/
def candidateDividers : List Nat := [1, 2, 3, 4, 5, 6, 7, 8, 9, 10, 11, 12, 13, 14]

/-- DISC_BW_MAX (R6, R147). -/
def discBwMax : Nat := 660

/-- CDR_MAX (R6, R147). -/
def cdrMax : Nat := 255

/-- The table of R141, `round_pi(48 / cdr)`: each row holds the last cdr of a range and its value. -/
def postDemodTable : List (Nat × Nat) :=
  [(1, 151), (2, 75), (3, 50), (4, 38), (5, 30), (6, 25), (7, 22), (8, 19), (9, 17), (10, 15), (11, 14), (12, 13), (13, 12), (14, 11), (15, 10),
   (17, 9), (20, 8), (23, 7), (27, 6), (33, 5), (43, 4), (60, 3), (100, 2), (255, 1)]

/-- The first row of a threshold table that reaches `n`; 0 beyond its end (which the planner never asks for, R155). -/
def lookupUpTo : List (Nat × Nat) → Nat → Nat
  | [], _ => 0
  | (hi, v) :: rest, n => if n ≤ hi then v else lookupUpTo rest n

/-- post_demod_bw of the winner's cdr (R141, R150). -/
def postDemodBw (cdr : Nat) : Nat := lookupUpTo postDemodTable cdr

/-- PFD = xtal / 2 (R143; `90_conflicts.md` C1). -/
def pfd (xtal : Nat) : Rat := (xtal : Rat) / 2

/-- The trial frequency deviation word (R143). -/
def deviationWord (xtal : Nat) (rate h : Rat) : Nat := roundNat (h * (1 / 2) * rate * 65536 / pfd xtal)

/-- The actual deviation in Hz (R144). -/
def deviationHz (xtal dev : Nat) : Rat := (dev : Rat) * pfd xtal / 65536

/-- The demodulator scaling constant k (R145). -/
def demodScale (fdev : Rat) : Nat := roundNat (100000 / fdev)

/-- demod_clk(d) = xtal / d (R146). -/
def demodClk (xtal d : Nat) : Rat := (xtal : Rat) / (d : Rat)

/-- disc(d) (R146). -/
def discBw (xtal k d : Nat) : Nat := roundNat ((k : Rat) * demodClk xtal d / 400000)

/-- cdr(d) (R146). -/
def cdrDivide (xtal : Nat) (rate : Rat) (d : Nat) : Nat := roundNat (demodClk xtal d / (rate * 32))

/-- Candidate d is rejected (R147). -/
def rejected (xtal : Nat) (rate : Rat) (k d : Nat) : Bool :=
  discBwMax < discBw xtal k d || cdrMax < cdrDivide xtal rate d || cdrDivide xtal rate d == 0

/-- realR(d) (R149). -/
def realRate (xtal : Nat) (rate : Rat) (d : Nat) : Rat := demodClk xtal d / ((cdrDivide xtal rate d : Rat) * 32)

/-- err(d) = |realR(d) - R| (R148). -/
def rateError (xtal : Nat) (rate : Rat) (d : Nat) : Rat := |realRate xtal rate d - rate|

/-- One turn of the search of R148: strict "<", so a tie keeps the earlier divider. -/
def better (xtal : Nat) (rate : Rat) (k : Nat) (best : Option Nat) (d : Nat) : Option Nat :=
  if rejected xtal rate k d then best
  else
    match best with
    | none => some d
    | some b => if rateError xtal rate d < rateError xtal rate b then some d else some b

/-- The winner of the search, or none if every candidate is rejected (R148). -/
def searchDivider (xtal : Nat) (rate : Rat) (k : Nat) : Option Nat :=
  candidateDividers.foldl (better xtal rate k) none

/-- The two-bit classification k is judged by: (k odd, ⌈k/2⌉ odd) (R152). -/
def kParityCase (k : Nat) : Bool × Bool := (k % 2 == 1, (k + 1) / 2 % 2 == 1)

/-- `plan_clocks(xtal, R, h)` (R142 to R153): none is FAIL. Its inputs are positive; the callers check it (R142). -/
def planClocks (c : Config) (xtal : Nat) (rate h : Rat) : Option PlannerResult :=
  let dev := deviationWord xtal rate h
  if dev = 0 then none
  else
    let fdev := deviationHz xtal dev
    let k := demodScale fdev
    match searchDivider xtal rate k with
    | none => none
    | some w =>
      let parity := c.kparity (kParityCase k).1 (kParityCase k).2
      some {
        dev := dev
        fdev := fdev
        k := k
        demClkDivide := w
        cdrClkDivide := cdrDivide xtal rate w
        discBw := discBw xtal k w
        realDataRate := realRate xtal rate w
        postDemodBw := postDemodBw (cdrDivide xtal rate w)
        realModIndex := 2 * fdev / realRate xtal rate w
        rxInvert := parity.1
        dotProduct := parity.2 }

/-- PLAN_CLOCKS (R154). A RAT with den = 0 is malformed: INVALID, not F_RANGE (R109). -/
def planClocksCommand (c : Config) (xtal : Word) (rate h : RatArg) (s : State) : Except Fault State :=
  if ratMalformed rate || ratMalformed h then .ok (answerInvalid s)
  else if 0 < xtal.toNat ∧ 0 < ratValue rate ∧ 0 < ratValue h then
    match planClocks c xtal.toNat (ratValue rate) (ratValue h) with
    | none => .ok (answer .planFail none s)
    | some r => .ok (answer .ok (some (.plan r)) s)
  else .error .range

/-- The meaning of PLAN_CLOCKS (R154). -/
def execPlanClocks (xtal : Word) (rate h : RatArg) (s : State) : Host.Outcome State Fault Refusal :=
  finish (planClocksCommand Config.actual xtal rate h s)

end Sys2Proof.Machine
end

