-- ==== Sys2Proof/Machine/Radio.lean ====
section
/-! DEFINITION. The radio controller (`41_radio_controller.md` R170 to R192): power, configuration and staging, mode switching, sync word, AFC, telemetry, RECONFIGURE and the register passthrough. The operations other families call come first; each command ends with what it answers. -/

namespace Sys2Proof.Machine

/-! ### Power (R171, R172) -/

/-- POWER_ON (R171); its preconditions in the order of R335. -/
def powerOnCommand (c : Config) (xtal : Word) (s : State) : Except Fault State :=
  if xtal.toNat = 0 then .error .range
  else if ¬ betweenFrames s then .error .modeMidFrame
  else
    let s1 := driveCe true { s with xtalHz := xtal.toNat }
    let s2 := writeSys (c.powerOnSeq xtal.toNat).toList s1
    let s3 := releaseTr s2
    .ok (answer .ok none { s3 with syncArmed := false, byteclkEn := false, paWarm := false, mode := .idle })

/-- The counters of a frame that POWER_OFF abandons (R172). -/
def abandonFrame (s : State) : State :=
  if betweenFrames s then s
  else setFrontBuf { frontBuf s with progress := 0, size := 0, trainingRemaining := 0 } s

/-- POWER_OFF (R172): legal in every state, nothing to do in Off. -/
def powerOffCommand (s : State) : Except Fault State :=
  if s.mode = .off then .ok (answer .ok none s)
  else
    let s1 := { abandonFrame s with rxState := .idle, txState := .idle, rxErr := 0, preIdx := 0, syncArmed := false, byteclkEn := false }
    let s2 := driveCe false (releaseTr s1)
    .ok (answer .ok none { s2 with paWarm := false, mode := .off })

/-! ### Configuration and staging (R174 to R176) -/

/-- plan[d] <- p; plan_error[d] <- 0. -/
def setPlan (d : Dir) (p : ChannelPlan) (s : State) : State :=
  match d with
  | .rx => { s with planRx := some p, planErrorRx := false }
  | .tx => { s with planTx := some p, planErrorTx := false }

/-- plan_error[d] <- 1; Emit(PLAN_FAIL). -/
def failPlan (d : Dir) (s : State) : State :=
  match d with
  | .rx => emit .planFail { s with planErrorRx := true }
  | .tx => emit .planFail { s with planErrorTx := true }

/-- plan[d] (R27). -/
def planOf (s : State) : Dir → Option ChannelPlan
  | .rx => s.planRx
  | .tx => s.planTx

/-- The ChannelPlan `configure` populates from the planner's result and SYNTH, with if_bw_class 0 (R174). -/
def channelPlan (c : Config) (xtal : Nat) (d : Dir) (rate h : Rat) (freq : Nat) (r : PlannerResult) : ChannelPlan :=
  let (synth, realFreq) := c.synth xtal freq d
  { desired := ⟨rate, h, freq⟩
    real := ⟨r.realDataRate, r.realModIndex, realFreq, r.fdev⟩
    derived := {
      dev := r.dev, k := r.k, demClkDivide := r.demClkDivide, cdrClkDivide := r.cdrClkDivide, discBw := r.discBw, postDemodBw := r.postDemodBw
      rxInvert := r.rxInvert, dotProduct := r.dotProduct, synth := synth, ifBwClass := 0 } }

/-- What `configure` computes before it writes anything (R174): F_RANGE (R142 asks it of a crystal frequency of 0 too, which R26 excludes), FAIL (none), or the plan. -/
def configurePlan (c : Config) (d : Dir) (rate h : Rat) (freq : Nat) (s : State) : Except Fault (Option ChannelPlan) :=
  if 0 < s.xtalHz ∧ 0 < rate ∧ 0 < h ∧ 0 < freq then
    match planClocks c s.xtalHz rate h with
    | none => .ok none
    | some r => .ok (some (channelPlan c s.xtalHz d rate h freq r))
  else .error .range

/-- `for a in seq: stage[a] <- staged(a, pack(a))` (R175, R176). -/
def stageAll (pack : RegAddr → Nat) : List RegAddr → Image → Image
  | [], m => m
  | a :: rest, m => stageAll pack rest (imageSet m a (staged a (pack a)))

/-- CONFIGURE_RX (R175) without its answer: the state, and whether the plan succeeded. -/
def configureRx (c : Config) (rate h : Rat) (freq ifbw : Nat) (s : State) : Except Fault (Bool × State) :=
  match configurePlan c .rx rate h freq s with
  | .error f => .error f
  | .ok none => .ok (false, failPlan .rx s)
  | .ok (some p) =>
    let plan := { p with derived := { p.derived with ifBwClass := maskIfbw c ifbw } }
    let s1 := setPlan .rx plan s
    .ok (true, { s1 with stageRx := stageAll (c.packRx plan plan.derived.ifBwClass) c.rxSeq s.stageRx })

/-- CONFIGURE_TX (R176) without its answer. -/
def configureTx (c : Config) (rate h : Rat) (freq : Nat) (s : State) : Except Fault (Bool × State) :=
  match configurePlan c .tx rate h freq s with
  | .error f => .error f
  | .ok none => .ok (false, failPlan .tx s)
  | .ok (some p) =>
    let s1 := setPlan .tx p s
    let stage := stageAll (c.packTx p) c.txSeq s.stageTx
    .ok (true, { s1 with stageTx := imageSet stage c.regPa (staged c.regPa (c.packPa s.cfg.paPower)), paWarm := false })

/-- The status of a configuration: OK or PLAN_FAIL. -/
def planStatus (ok : Bool) : Status := if ok then .ok else .planFail

/-- CONFIGURE_RX as a command (R175); a malformed RAT is INVALID (R109). -/
def configureRxCommand (c : Config) (rate h : RatArg) (freq : Word) (ifbw : Byte) (s : State) : Except Fault State :=
  if ratMalformed rate || ratMalformed h then .ok (answerInvalid s)
  else
    match configureRx c (ratValue rate) (ratValue h) freq.toNat ifbw.toNat s with
    | .error f => .error f
    | .ok (ok, s1) => .ok (answer (planStatus ok) none s1)

/-- CONFIGURE_TX as a command (R176). -/
def configureTxCommand (c : Config) (rate h : RatArg) (freq : Word) (s : State) : Except Fault State :=
  if ratMalformed rate || ratMalformed h then .ok (answerInvalid s)
  else
    match configureTx c (ratValue rate) (ratValue h) freq.toNat s with
    | .error f => .error f
    | .ok (ok, s1) => .ok (answer (planStatus ok) none s1)

/-! ### Mode switching (R177 to R179) -/

/-- `skip(prev, new, a)` (R177): the shared clock register, on a change of direction, where the two staged values are equal. -/
def skipsClock (c : Config) (s : State) (prev : Option Dir) (new : Dir) (a : RegAddr) : Bool :=
  match prev with
  | none => false
  | some d => a == c.regClk && d != new && imageAt (stageOf s d) c.regClk == imageAt (stageOf s new) c.regClk

/-- The writes of the TX switch before the T/R switch is asserted: every address of TX_SEQ but REG_PLL, in order (R178). -/
def txSwitchWrites (c : Config) (prev : Option Dir) : List RegAddr → State → Except Fault State
  | [], s => .ok s
  | a :: rest, s =>
    if a = c.regPll ∨ skipsClock c s prev .tx a then txSwitchWrites c prev rest s
    else
      match writeStaged s.stageTx a s with
      | .error f => .error f
      | .ok s1 => txSwitchWrites c prev rest s1

/-- `if not pa_warm then BusWrite(stage_tx[REG_PA]); pa_warm <- 1` (R178). -/
def warmPa (c : Config) (s : State) : Except Fault State :=
  if s.paWarm then .ok s
  else
    match writeStaged s.stageTx c.regPa s with
    | .error f => .error f
    | .ok s1 => .ok { s1 with paWarm := true }

/-- `tx_mode_switch()` (R178): the PA once, the sequence, the T/R switch, then the PLL last. -/
def txModeSwitch (c : Config) (s : State) : Except Fault State :=
  let prev := dirOf s.mode
  match warmPa c { s with syncArmed := false } with
  | .error f => .error f
  | .ok s1 =>
    match txSwitchWrites c prev c.txSeq s1 with
    | .error f => .error f
    | .ok s2 =>
      let s3 := driveTr true s2
      match writeStaged s3.stageTx c.regPll s3 with
      | .error f => .error f
      | .ok s4 => .ok { s4 with mode := .transmitting }

/-- The writes of the RX switch, in order; SetTR(0) right after the PLL write (R179). -/
def rxSwitchWrites (c : Config) (prev : Option Dir) : List RegAddr → State → Except Fault State
  | [], s => .ok s
  | a :: rest, s =>
    if skipsClock c s prev .rx a then rxSwitchWrites c prev rest s
    else
      match writeStaged s.stageRx a s with
      | .error f => .error f
      | .ok s1 => rxSwitchWrites c prev rest (if a = c.regPll then driveTr false s1 else s1)

/-- `rx_mode_switch()` (R179). -/
def rxModeSwitch (c : Config) (s : State) : Except Fault State :=
  match rxSwitchWrites c (dirOf s.mode) c.rxSeq s with
  | .error f => .error f
  | .ok s1 => .ok { s1 with mode := .receiving, syncArmed := true }

/-- SET_RX_MODE (R179) without its answer; its preconditions in the order of R335. -/
def setRxMode (c : Config) (s : State) : Except Fault State :=
  if ¬ busOk s then .error .busOff
  else if s.planRx = none then .error .noPlan
  else if ¬ betweenFrames s then .error .modeMidFrame
  else rxModeSwitch c s

/-- SET_TX_MODE (R178) without its answer. -/
def setTxMode (c : Config) (s : State) : Except Fault State :=
  if ¬ busOk s then .error .busOff
  else if s.planTx = none then .error .noPlan
  else if ¬ betweenFrames s then .error .modeMidFrame
  else txModeSwitch c s

/-- `status <- OK` after an operation that can fault. -/
def thenOk (r : Except Fault State) : Except Fault State :=
  match r with
  | .error f => .error f
  | .ok s => .ok (answer .ok none s)

/-- SET_RX_MODE as a command (R179). -/
def setRxModeCommand (c : Config) (s : State) : Except Fault State := thenOk (setRxMode c s)

/-- SET_TX_MODE as a command (R178). -/
def setTxModeCommand (c : Config) (s : State) : Except Fault State := thenOk (setTxMode c s)

/-! ### Sync word and AFC (R180 to R182) -/

/-- SET_SYNC_WORD (R180) without its answer; sync_active keeps the unmasked values. -/
def setSyncWord (c : Config) (word len tol : Nat) (s : State) : Except Fault State :=
  if ¬ busOk s then .error .busOff
  else .ok { writeSys (c.syncSeq word len tol) s with syncActive := ⟨word, len, tol⟩ }

/-- ENABLE_AFC (R181) without its answer. -/
def enableAfc (c : Config) (range ki kp : Nat) (s : State) : Except Fault State :=
  if ¬ busOk s then .error .busOff
  else .ok { writeSys (c.packAfc true range ki kp) s with afcOn := true, afcActive := some ⟨range, ki, kp⟩ }

/-- The loop constants DISABLE_AFC packs: those last programmed, or zeros (R182). -/
def afcConstants (s : State) : AfcSettings := s.afcActive.getD ⟨0, 0, 0⟩

/-- DISABLE_AFC (R182) without its answer. -/
def disableAfc (c : Config) (s : State) : Except Fault State :=
  if ¬ busOk s then .error .busOff
  else
    let k := afcConstants s
    .ok { writeSys (c.packAfc false k.range k.ki k.kp) s with afcOn := false, afcActive := none }

/-- SET_SYNC_WORD as a command (R180). -/
def setSyncWordCommand (c : Config) (word : Word) (len tol : Byte) (s : State) : Except Fault State :=
  thenOk (setSyncWord c word.toNat len.toNat tol.toNat s)

/-- ENABLE_AFC as a command (R181). -/
def enableAfcCommand (c : Config) (range ki kp : Word) (s : State) : Except Fault State :=
  thenOk (enableAfc c range.toNat ki.toNat kp.toNat s)

/-- DISABLE_AFC as a command (R182). -/
def disableAfcCommand (c : Config) (s : State) : Except Fault State := thenOk (disableAfc c s)

/-! ### Telemetry (R183 to R187) -/

/-- The RSSI in dBm a readback word stands for: CONV_RSSI(w) + GAIN_CORR[GAIN_CODE(w)] (R183). -/
def rssiOf (c : Config) (w : Word) : Rat := c.convRssi w + c.gainCorr[(gainCode c w).toNat]

/-- `READ_RSSI()` where the bus is known to be usable (R183). -/
def readRssi (c : Config) (s : State) : Rat × State :=
  let (w, s1) := busRead c c.selRssi s
  (rssiOf c w, s1)

/-- `READ_AFC_OFFSET()` where the bus is known to be usable (R184). -/
def readAfcOffset (c : Config) (s : State) : Rat × State :=
  let (w, s1) := busRead c c.selAfc s
  (c.convAfc w, s1)

/-- A readback command: F_BUS_OFF in Off, else the conversion of the word drawn (R183 to R187, R190). -/
def readCommand (c : Config) (sel : Selector) (conv : Word → Result) (s : State) : Except Fault State :=
  if ¬ busOk s then .error .busOff
  else
    let (w, s1) := busRead c sel s
    .ok (answer .ok (some (conv w)) s1)

/-- READ_RSSI as a command (R183). -/
def readRssiCommand (c : Config) (s : State) : Except Fault State := readCommand c c.selRssi (fun w => .rat (rssiOf c w)) s

/-- READ_AFC_OFFSET as a command (R184). -/
def readAfcOffsetCommand (c : Config) (s : State) : Except Fault State := readCommand c c.selAfc (fun w => .rat (c.convAfc w)) s

/-- READ_TEMPERATURE (R185). -/
def readTemperatureCommand (c : Config) (s : State) : Except Fault State := readCommand c c.selTemp (fun w => .rat (c.convTemp w)) s

/-- READ_SUPPLY_VOLTAGE (R186). -/
def readSupplyVoltageCommand (c : Config) (s : State) : Except Fault State := readCommand c c.selVolt (fun w => .rat (c.convVolt w)) s

/-- READ_CHIP_VERSION (R187). -/
def readChipVersionCommand (c : Config) (s : State) : Except Fault State := readCommand c c.selVersion (fun w => .nat (c.convVersion w)) s

/-! ### RECONFIGURE and the passthrough (R188 to R190) -/

/-- The AFC part of RECONFIGURE (R188). -/
def reconfigureAfc (c : Config) (s : State) : Except Fault State :=
  if s.cfg.afcEnable then enableAfc c s.cfg.afcRange s.cfg.afcKi s.cfg.afcKp s else disableAfc c s

/-- RECONFIGURE (R188): sync word, RX plan, TX plan, AFC, then RX mode; a fault of any of them ends the step. From Transmitting, where the two restaged shared-clock values are equal, the RX switch skips that register as R188 with R179 and R177 says, although R385 calls the switch of a RECONFIGURE full (DESIGN CHOICE, log entry 30). -/
def reconfigureCommand (c : Config) (s : State) : Except Fault State :=
  if ¬ busOk s then .error .busOff
  else if ¬ betweenFrames s then .error .modeMidFrame
  else
    match setSyncWord c s.cfg.syncWord s.cfg.syncLen s.cfg.syncTol s with
    | .error f => .error f
    | .ok s1 =>
      match configureRx c s1.cfg.bitrate s1.cfg.modIndex s1.cfg.rxFreq s1.cfg.ifBwClass s1 with
      | .error f => .error f
      | .ok (okRx, s2) =>
        match configureTx c s2.cfg.bitrate s2.cfg.modIndex s2.cfg.txFreq s2 with
        | .error f => .error f
        | .ok (okTx, s3) =>
          match reconfigureAfc c s3 with
          | .error f => .error f
          | .ok s4 =>
            match setRxMode c s4 with
            | .error f => .error f
            | .ok s5 => .ok (answer (planStatus (okRx && okTx)) none s5)

/-- REG_WRITE (R189): the host's word unchanged; no image is updated. -/
def regWriteCommand (v : Word) (s : State) : Except Fault State :=
  if ¬ busOk s then .error .busOff else .ok (answer .ok none (busWrite v s))

/-- REG_READ (R190). -/
def regReadCommand (c : Config) (sel : Selector) (s : State) : Except Fault State := readCommand c sel (fun w => .word w) s

/-! ### The meanings -/

/-- The meaning of POWER_ON (R171). -/
def execPowerOn (xtal : Word) (s : State) : Host.Outcome State Fault Refusal := finish (powerOnCommand Config.actual xtal s)

/-- The meaning of POWER_OFF (R172). -/
def execPowerOff (s : State) : Host.Outcome State Fault Refusal := finish (powerOffCommand s)

/-- The meaning of CONFIGURE_RX (R175). -/
def execConfigureRx (rate h : RatArg) (freq : Word) (ifbw : Byte) (s : State) : Host.Outcome State Fault Refusal :=
  finish (configureRxCommand Config.actual rate h freq ifbw s)

/-- The meaning of CONFIGURE_TX (R176). -/
def execConfigureTx (rate h : RatArg) (freq : Word) (s : State) : Host.Outcome State Fault Refusal :=
  finish (configureTxCommand Config.actual rate h freq s)

/-- The meaning of SET_RX_MODE (R179). -/
def execSetRxMode (s : State) : Host.Outcome State Fault Refusal := finish (setRxModeCommand Config.actual s)

/-- The meaning of SET_TX_MODE (R178). -/
def execSetTxMode (s : State) : Host.Outcome State Fault Refusal := finish (setTxModeCommand Config.actual s)

/-- The meaning of SET_SYNC_WORD (R180). -/
def execSetSyncWord (word : Word) (len tol : Byte) (s : State) : Host.Outcome State Fault Refusal :=
  finish (setSyncWordCommand Config.actual word len tol s)

/-- The meaning of ENABLE_AFC (R181). -/
def execEnableAfc (range ki kp : Word) (s : State) : Host.Outcome State Fault Refusal :=
  finish (enableAfcCommand Config.actual range ki kp s)

/-- The meaning of DISABLE_AFC (R182). -/
def execDisableAfc (s : State) : Host.Outcome State Fault Refusal := finish (disableAfcCommand Config.actual s)

/-- The meaning of READ_RSSI (R183). -/
def execReadRssi (s : State) : Host.Outcome State Fault Refusal := finish (readRssiCommand Config.actual s)

/-- The meaning of READ_AFC_OFFSET (R184). -/
def execReadAfcOffset (s : State) : Host.Outcome State Fault Refusal := finish (readAfcOffsetCommand Config.actual s)

/-- The meaning of READ_TEMPERATURE (R185). -/
def execReadTemperature (s : State) : Host.Outcome State Fault Refusal := finish (readTemperatureCommand Config.actual s)

/-- The meaning of READ_SUPPLY_VOLTAGE (R186). -/
def execReadSupplyVoltage (s : State) : Host.Outcome State Fault Refusal := finish (readSupplyVoltageCommand Config.actual s)

/-- The meaning of READ_CHIP_VERSION (R187). -/
def execReadChipVersion (s : State) : Host.Outcome State Fault Refusal := finish (readChipVersionCommand Config.actual s)

/-- The meaning of RECONFIGURE (R188). -/
def execReconfigure (s : State) : Host.Outcome State Fault Refusal := finish (reconfigureCommand Config.actual s)

/-- The meaning of REG_WRITE (R189). -/
def execRegWrite (v : Word) (s : State) : Host.Outcome State Fault Refusal := finish (regWriteCommand v s)

/-- The meaning of REG_READ (R190). -/
def execRegRead (sel : Selector) (s : State) : Host.Outcome State Fault Refusal := finish (regReadCommand Config.actual sel s)

end Sys2Proof.Machine
end

