-- ==== Sys2Proof/Machine/Frame.lean ====
section
/-! DEFINITION. The frame engine (`43_frame_engine.md` R240 to R277): frame types, the sync-detect and byte-clock handlers, the drain, carrier sense and TX_START. -/

namespace Sys2Proof.Machine

/-! ### Markers, types, preamble (R241 to R243, R272) -/

/-- MARKER_SHORT (R6, R115, R242). -/
def markerShort : Byte := 0xA6#8

/-- MARKER_LONG (R6, R115, R242). -/
def markerLong : Byte := 0x59#8

/-- MARKER(t) (R242). -/
def markerOf : FrameType → Byte
  | .short => markerShort
  | .long => markerLong

/-- Frame-type inference: the nearer marker; a tie gives LONG (R243). -/
def classify (b : Byte) : FrameType := if hd b markerShort < hd b markerLong then .short else .long

/-- TAIL: the last P bytes of CALLSIGN (R241). -/
def callsignTail (c : Config) : List Byte := c.callsign.drop (c.callsign.length - c.rxPrefixLen)

/-- PRE(t) = CALLSIGN ++ [MARKER(t)] (R241). -/
def txPreamble (c : Config) (t : FrameType) : List Byte := c.callsign ++ [markerOf t]

/-- `tx_type(n)`; none is DROP (R272). -/
def txType (c : Config) (n : Nat) : Option FrameType :=
  if n = c.frameLen .short then some .short
  else if n = c.frameLen .long then some .long
  else none

/-! ### RX (R250 to R255) -/

/-- `sync_detect()` (R250). -/
def syncDetect (c : Config) (s : State) : State :=
  let s1 := record .syncEdge s
  let s2 := setFrontBuf { frontBuf s1 with progress := 0, size := c.rxPrefixLen + 1 } s1
  { s2 with syncArmed := false, byteclkEn := true, rxErr := 0, rxState := .armed }

/-- What ends a frame in reception: the byte clock off, the sub-state idle, sync detection armed again (R252, R255). -/
def rearm (s : State) : State := { s with rxErr := 0, byteclkEn := false, rxState := .idle, syncArmed := true }

/-- F.progress <- 0; F.size <- 0. -/
def dropFront (s : State) : State := setFrontBuf { frontBuf s with progress := 0, size := 0 } s

/-- `prefix_check()`: the rejection of a prefix with too many errors (R252). -/
def prefixCheck (s : State) : State :=
  if 2 * s.syncActive.tol < s.rxErr then rearm (dropFront (emit .rxRejected s)) else s

/-- A prefix byte (R251). -/
def prefixByte (c : Config) (b : Byte) (s : State) : State :=
  let f := frontBuf s
  let s1 := setFrontBuf { f with progress := f.progress + 1 } s
  let s2 := { s1 with rxErr := s.rxErr + hd b ((callsignTail c).getD f.progress 0), rxState := .preamble }
  if f.progress + 1 = c.rxPrefixLen then prefixCheck s2 else s2

/-- The marker byte (R253). -/
def markerByte (c : Config) (b : Byte) (s : State) : State :=
  let t := classify b
  let s1 := setFrontBuf { frontBuf s with size := c.frameLen t, progress := 0 } s
  { s1 with ftype := t, rxState := .body }

/-- `rx_complete()`: a swap, or an overrun while the back buffer is ready (R255). -/
def rxComplete (s : State) : State :=
  if (backBuf s).ready then rearm (dropFront (emit .rxOverrun s))
  else
    let s1 := setFrontBuf { frontBuf s with flags := setReady (frontBuf s).flags } s
    rearm (emit .rxComplete { s1 with front := backIndex s1 })

/-- A body byte (R254). -/
def bodyByte (c : Config) (b : Byte) (s : State) : Except Fault State :=
  let f := frontBuf s
  match writePayload c f.payload f.progress b with
  | .error e => .error e
  | .ok m =>
    let s1 := setFrontBuf { f with payload := m, progress := f.progress + 1 } s
    .ok (if f.progress + 1 = f.size then rxComplete s1 else s1)

/-- `rx_byte(b)` (R251 to R255): which rule applies is decided by the sub-state and F.progress; in RX_IDLE, and past the marker's place, no rule does. -/
def rxByte (c : Config) (b : Byte) (s : State) : Except Fault State :=
  match s.rxState with
  | .idle => .error .noRule
  | .body => bodyByte c b s
  | .armed | .preamble =>
    if (frontBuf s).progress < c.rxPrefixLen then .ok (prefixByte c b s)
    else if (frontBuf s).progress = c.rxPrefixLen then .ok (markerByte c b s)
    else .error .noRule

/-! ### TX (R256 to R259) -/

/-- `TxOut(b)` (R10). -/
def txOut (b : Byte) (s : State) : State := record (.txOut b) s

/-- A training byte (R256); TX_TRAINING is only entered with training_remaining ≥ 1. -/
def trainingByte (c : Config) (s : State) : Except Fault State :=
  let f := frontBuf s
  if f.trainingRemaining = 0 then .error .noRule
  else
    let s1 := setFrontBuf { f with trainingRemaining := f.trainingRemaining - 1 } (txOut c.trainingSymbol s)
    .ok (if f.trainingRemaining = 1 then { s1 with txState := .preamble, preIdx := 0 } else s1)

/-- A preamble byte (R257). -/
def preambleByte (c : Config) (s : State) : Except Fault State :=
  match (txPreamble c s.ftype)[s.preIdx]? with
  | none => .error .noRule
  | some b =>
    let s1 := { txOut b s with preIdx := s.preIdx + 1 }
    .ok (if s.preIdx + 1 = c.callsign.length + 1 then { s1 with txState := .body } else s1)

/-- TX completion: back to RX mode between frames (R259). -/
def txComplete (c : Config) (s : State) : Except Fault State :=
  match rxModeSwitch c { s with byteclkEn := false, txState := .idle } with
  | .error f => .error f
  | .ok s1 => .ok (emit .txComplete s1)

/-- A body byte, or the completion one event after the last (R258, R259). -/
def txBodyByte (c : Config) (s : State) : Except Fault State :=
  let f := frontBuf s
  if f.progress < f.size then
    match readPayload c f.payload f.progress with
    | .error e => .error e
    | .ok b => .ok (setFrontBuf { f with progress := f.progress + 1 } (txOut b s))
  else if f.progress = f.size then txComplete c s
  else .error .noRule

/-- `tx_byte()` (R256 to R259). -/
def txByte (c : Config) (s : State) : Except Fault State :=
  match s.txState with
  | .idle => .error .noRule
  | .training => trainingByte c s
  | .preamble => preambleByte c s
  | .body => txBodyByte c s

/-! ### Event dispatch (R249) -/

/-- EV_SYNC_DETECT (R249, R250). -/
def evSyncDetect (c : Config) (s : State) : Except Fault State :=
  takeEvent s.syncArmed (fun s => .ok (syncDetect c s)) s

/-- The byte-clock handler: TX bytes while a frame is sent (its operand is not used), RX bytes otherwise (R249). -/
def byteClockHandler (c : Config) (b : Byte) (s : State) : Except Fault State :=
  if s.txState ≠ .idle then txByte c (record .byteClock s) else rxByte c b (record (.rxIn b) s)

/-- EV_BYTE_CLOCK (R249). -/
def evByteClock (c : Config) (b : Byte) (s : State) : Except Fault State :=
  takeEvent s.byteclkEn (byteClockHandler c b) s

/-! ### Drain (R265, R266) -/

/-- B.rssi and B.freq at drain: two readbacks, or two draws in Off with no bus event (R265). -/
def drainReadings (c : Config) (s : State) : Rat × Rat × State :=
  if busOk s then
    let (r, s1) := readRssi c s
    let (f, s2) := readAfcOffset c s1
    (r, f, s2)
  else
    let (r, s1) := drawRat c s
    let (f, s2) := drawRat c s1
    (r, f, s2)

/-- RX_DRAIN_BEGIN (R265). -/
def rxDrainBeginCommand (c : Config) (s : State) : Except Fault State :=
  if ¬ (backBuf s).ready then .ok (answer .noFrame none s)
  else if s.drainPending then .ok (answer .busy none s)
  else
    let (rssi, freq, s1) := drainReadings c s
    let b := { backBuf s1 with rssi := rssi, freq := freq }
    match readPayloadFrom c b.payload 0 b.size with
    | .error f => .error f
    | .ok bytes =>
      let r : RxRecord := { size := b.size, rssi := b.rssi, freq := b.freq, flags := b.flags, payload := bytes }
      let s2 := record (.hostPush r) (setBackBuf b s1)
      .ok (answer .ok (some (.record r)) { s2 with drainPending := true })

/-- RX_DRAIN_END (R266). -/
def rxDrainEndCommand (s : State) : Except Fault State :=
  if s.drainPending then
    let s1 := setBackBuf { backBuf s with flags := clearReady (backBuf s).flags } s
    .ok (answer .ok none { s1 with drainPending := false })
  else .ok (answer .noFrame none s)

/-! ### Carrier sense and TX_START (R270, R271) -/

/-- The quarantine counter and the verdict after a reading (R270): the comparison is strict; the counter is tested before it is decremented. -/
def carrierSense (c : Config) (rssi : Rat) (s : State) : Bool × Nat :=
  if s.cfg.csThreshold < rssi then (false, c.quarantineMax)
  else if 0 < s.quarantine then (false, s.quarantine - 1)
  else (true, s.quarantine)

/-- `transmit_allowed()` where the bus is known to be usable (R270). -/
def transmitAllowed (c : Config) (s : State) : Bool × State :=
  let (rssi, s1) := readRssi c s
  let (allowed, q) := carrierSense c rssi s1
  let s2 := { s1 with quarantine := q }
  (allowed, if allowed then s2 else emit .csDenied s2)

/-- CS_CHECK (R270); the only command that returns a result with a status other than OK (R105). -/
def csCheckCommand (c : Config) (s : State) : Except Fault State :=
  if ¬ busOk s then .error .busOff
  else
    let (allowed, s1) := transmitAllowed c s
    .ok (answer (if allowed then .ok else .denied) (some (.bool allowed)) s1)

/-- The front buffer TX_START loads with a host frame (R271). -/
def loadFrame (f : List Byte) (s : State) : FrameBuffer :=
  { frontBuf s with
    size := f.length
    progress := 0
    flags := 0x00#8
    trainingRemaining := s.cfg.trainingBytes
    payload := Memory.writeAll (frontBuf s).payload 0 f }

/-- TX_START once a frame of type `t` is to be sent (R271). -/
def startFrame (c : Config) (f : List Byte) (t : FrameType) (s : State) : Except Fault State :=
  let s1 := { setFrontBuf (loadFrame f s) s with syncArmed := false, ftype := t, preIdx := 0 }
  if s1.planTx = none then .error .noPlan
  else
    match txModeSwitch c s1 with
    | .error e => .error e
    | .ok s2 =>
      .ok (answer .ok none { s2 with txState := if 0 < s2.cfg.trainingBytes then .training else .preamble, byteclkEn := true })

/-- TX_START (R271); what it checks, in the order of R335. -/
def txStartCommand (c : Config) (s : State) : Except Fault State :=
  if ¬ busOk s then .error .busOff
  else if ¬ (s.mode = .receiving ∧ s.rxState = .idle ∧ s.txState = .idle) then .ok (answer .busy none s)
  else
    let (allowed, s1) := transmitAllowed c s
    if ¬ allowed then .ok (answer .denied none s1)
    else
      match hostPull c s1 with
      | (none, s2) => .ok (answer .noFrame none s2)
      | (some f, s2) =>
        if c.maxPayload < f.length then .error .range
        else
          match txType c f.length with
          | none => .ok (answer .txDropped none (emit .txDropped s2))
          | some t => startFrame c f t s2

/-! ### The meanings -/

/-- The meaning of EV_SYNC_DETECT (R250). -/
def execEvSyncDetect (s : State) : Host.Outcome State Fault Refusal := finish (evSyncDetect Config.actual s)

/-- The meaning of EV_BYTE_CLOCK (R249, R251 to R259). -/
def execEvByteClock (b : Byte) (s : State) : Host.Outcome State Fault Refusal := finish (evByteClock Config.actual b s)

/-- The meaning of RX_DRAIN_BEGIN (R265). -/
def execRxDrainBegin (s : State) : Host.Outcome State Fault Refusal := finish (rxDrainBeginCommand Config.actual s)

/-- The meaning of RX_DRAIN_END (R266). -/
def execRxDrainEnd (s : State) : Host.Outcome State Fault Refusal := finish (rxDrainEndCommand s)

/-- The meaning of CS_CHECK (R270). -/
def execCsCheck (s : State) : Host.Outcome State Fault Refusal := finish (csCheckCommand Config.actual s)

/-- The meaning of TX_START (R271). -/
def execTxStart (s : State) : Host.Outcome State Fault Refusal := finish (txStartCommand Config.actual s)

end Sys2Proof.Machine
end

