-- ==== Sys2Proof/Machine/HostConfig.lean ====
section
/-! DEFINITION. The host configuration interface (`44_host_interface.md` R300 to R309) and the power-up reset (`70_reset_and_hazards.md` R370, R371). -/

namespace Sys2Proof.Machine

/-! ### CONFIG_GET and CONFIG_SET (R300, R301; ids of R35) -/

/-- CFG.field(id), of the field's type; none for an id that is no field (R35, R301). -/
def configField (r : ConfigRecord) (id : Byte) : Option ConfigValue :=
  match id.toNat with
  | 0x00 => some (.nat r.rxFreq)
  | 0x01 => some (.nat r.txFreq)
  | 0x02 => some (.rat r.modIndex)
  | 0x03 => some (.rat r.bitrate)
  | 0x04 => some (.rat r.csThreshold)
  | 0x05 => some (.nat r.paPower)
  | 0x06 => some (.bool r.afcEnable)
  | 0x07 => some (.nat r.afcRange)
  | 0x08 => some (.nat r.afcKi)
  | 0x09 => some (.nat r.afcKp)
  | 0x0A => some (.nat r.ifBwClass)
  | 0x0B => some (.nat r.trainingBytes)
  | 0x0C => some (.nat r.syncWord)
  | 0x0D => some (.nat r.syncLen)
  | 0x0E => some (.nat r.syncTol)
  | 0x0F => some (.nat r.txTimeout)
  | 0x10 => some (.nat r.rxTimeout)
  | _ => none

/-- `CFG.field(id) <- v` for a RAT field (R300); a RAT with den = 0 is malformed (R109). -/
def setRatField (r : ConfigRecord) (id : Byte) (q : RatArg) : Option ConfigRecord :=
  if ratMalformed q then none
  else
    match id.toNat with
    | 0x02 => some { r with modIndex := ratValue q }
    | 0x03 => some { r with bitrate := ratValue q }
    | 0x04 => some { r with csThreshold := ratValue q }
    | _ => none

/-- `CFG.field(id) <- v` for a u32 field (R300). -/
def setNatField (r : ConfigRecord) (id : Byte) (w : Word) : Option ConfigRecord :=
  match id.toNat with
  | 0x00 => some { r with rxFreq := w.toNat }
  | 0x01 => some { r with txFreq := w.toNat }
  | 0x05 => some { r with paPower := w.toNat }
  | 0x07 => some { r with afcRange := w.toNat }
  | 0x08 => some { r with afcKi := w.toNat }
  | 0x09 => some { r with afcKp := w.toNat }
  | 0x0A => some { r with ifBwClass := w.toNat }
  | 0x0B => some { r with trainingBytes := w.toNat }
  | 0x0C => some { r with syncWord := w.toNat }
  | 0x0D => some { r with syncLen := w.toNat }
  | 0x0E => some { r with syncTol := w.toNat }
  | 0x0F => some { r with txTimeout := w.toNat }
  | 0x10 => some { r with rxTimeout := w.toNat }
  | _ => none

/-- `CFG.AFC_ENABLE <- v[0]` (R300, R104). -/
def setByteField (r : ConfigRecord) (id : Byte) (b : Byte) : Option ConfigRecord :=
  if id = 0x06#8 then some { r with afcEnable := afcEnableBit b } else none

/-- The configuration record after CONFIG_SET; none where the command is INVALID: an id above 0x10 (R300), a malformed RAT, or a value of another field's type, which no byte form gives (R104). -/
def configWith (r : ConfigRecord) (id : Byte) : ConfigArg → Option ConfigRecord
  | .absent => none
  | .u8 b => setByteField r id b
  | .u32 w => setNatField r id w
  | .rat q => setRatField r id q

/-- CONFIG_SET (R300): no bus write and no re-synthesis. -/
def configSetCommand (id : Byte) (v : ConfigArg) (s : State) : Except Fault State :=
  match configWith s.cfg id v with
  | none => .ok (answerInvalid s)
  | some r => .ok (answer .ok none { s with cfg := r })

/-- CONFIG_GET (R301). -/
def configGetCommand (id : Byte) (s : State) : Except Fault State :=
  if id = 0x11#8 then .ok (answer .ok (some (.value (.byte (statusByte s)))) s)
  else
    match configField s.cfg id with
    | none => .ok (answerInvalid s)
    | some v => .ok (answer .ok (some (.value v)) s)

/-! ### Identity and persistence (R303 to R305) -/

/-- SERIAL_SET (R303). -/
def serialSetCommand (v : Word) (s : State) : Except Fault State := .ok (answer .ok none { s with serial := v })

/-- SERIAL_GET (R304). -/
def serialGetCommand (s : State) : Except Fault State := .ok (answer .ok (some (.word s.serial)) s)

/-- FW_REV_GET (R305). -/
def fwRevGetCommand (c : Config) (s : State) : Except Fault State := .ok (answer .ok (some (.text c.fwRev)) s)

/-! ### Reset (R306, R370, R371) -/

/-- `if ce = 1 then SetCE(0)` (R371). -/
def releaseCe (s : State) : State := if s.ce then driveCe false s else s

/-- `soft_reset()` (R371): the outputs are driven to their reset values, recorded, before every field is reset. -/
def softReset (c : Config) (s : State) : State := clearState c (releaseCe (releaseTr s))

/-- SOFT_RESET (R306): the reply is recorded before the reset takes effect. -/
def softResetCommand (c : Config) (s : State) : Except Fault State := .ok (softReset c (answer .ok none s))

/-- EV_POWER_UP_RESET (R370): every field of R60 at its reset value, no event recorded. -/
def evPowerUpReset (c : Config) (s : State) : Except Fault State := .ok (clearState c s)

/-! ### The meanings -/

/-- The meaning of CONFIG_GET (R301). -/
def execConfigGet (id : Byte) (s : State) : Host.Outcome State Fault Refusal := finish (configGetCommand id s)

/-- The meaning of CONFIG_SET (R300). -/
def execConfigSet (id : Byte) (v : ConfigArg) (s : State) : Host.Outcome State Fault Refusal := finish (configSetCommand id v s)

/-- The meaning of SERIAL_GET (R304). -/
def execSerialGet (s : State) : Host.Outcome State Fault Refusal := finish (serialGetCommand s)

/-- The meaning of SERIAL_SET (R303). -/
def execSerialSet (v : Word) (s : State) : Host.Outcome State Fault Refusal := finish (serialSetCommand v s)

/-- The meaning of FW_REV_GET (R305). -/
def execFwRevGet (s : State) : Host.Outcome State Fault Refusal := finish (fwRevGetCommand Config.actual s)

/-- The meaning of SOFT_RESET (R306). -/
def execSoftReset (s : State) : Host.Outcome State Fault Refusal := finish (softResetCommand Config.actual s)

/-- The meaning of BOOTLOADER_ENTER (R309, R334): `refuse(BOOTLOADER)`, in every state. -/
def execBootloaderEnter (_ : State) : Host.Outcome State Fault Refusal := .refused .bootloader

/-- The meaning of EV_POWER_UP_RESET (R370). -/
def execEvPowerUpReset (s : State) : Host.Outcome State Fault Refusal := finish (evPowerUpReset Config.actual s)

end Sys2Proof.Machine
end

