-- ==== Sys2Proof/Machine/Scrambler.lean ====
section
/-! DEFINITION. The whitening scrambler (`42_scrambler.md` R220 to R227): SCR_GENERATE and SCR_APPLY. -/

namespace Sys2Proof.Machine

/-- The shift register x[0..8] (R220): x[i] is bit i. It exists only during one call. -/
abbrev ScramblerRegister := BitVec 9

/-- x[0..8] <- all ones (R220). -/
def scramblerSeed : ScramblerRegister := 0x1FF#9

/-- The bit fed back into x[8] (R221). -/
def scramblerFeedback (x : ScramblerRegister) : Bool :=
  x.getLsbD 7 ^^ x.getLsbD 5 ^^ x.getLsbD 3 ^^ x.getLsbD 0

/-- One register step (R221): the output bit is x[0]; x[8] receives the feedback and every other element its neighbour, where x[7] takes the new x[8]. -/
def scramblerStep (x : ScramblerRegister) : Bool × ScramblerRegister :=
  let fb := BitVec.ofBool (scramblerFeedback x)
  (x.getLsbD 0, fb ++ fb ++ x.extractLsb' 1 7)

/-- `n` register steps into a byte, `b <- (b << 1) | step()` (R222). -/
def scramblerBits : Nat → Byte → ScramblerRegister → Byte × ScramblerRegister
  | 0, b, x => (b, x)
  | n + 1, b, x =>
    let (out, x') := scramblerStep x
    scramblerBits n ((b <<< 1) ||| (BitVec.ofBool out).setWidth 8) x'

/-- `n` bytes from the register on (R222). -/
def scramblerBytes : Nat → ScramblerRegister → List Byte
  | 0, _ => []
  | n + 1, x =>
    let (b, x') := scramblerBits 8 0 x
    b :: scramblerBytes n x'

/-- `generate_sequence(n)` (R222). -/
def generateSequence (n : Nat) : List Byte := scramblerBytes n scramblerSeed

/-- `apply(data, seq)` (R223). -/
def applySequence (data seq : List Byte) : Except Fault (List Byte) :=
  if data.length ≤ seq.length then .ok (List.zipWith (· ^^^ ·) data seq) else .error .seqShort

/-- SCR_GENERATE (R226): any mode. -/
def scrGenerateCommand (len : BitVec 16) (s : State) : Except Fault State :=
  .ok (answer .ok (some (.bytes (generateSequence len.toNat))) s)

/-- SCR_APPLY (R227): any mode. -/
def scrApplyCommand (data seq : List Byte) (s : State) : Except Fault State :=
  match applySequence data seq with
  | .error f => .error f
  | .ok out => .ok (answer .ok (some (.bytes out)) s)

/-- The meaning of SCR_GENERATE (R226). -/
def execScrGenerate (len : BitVec 16) (s : State) : Host.Outcome State Fault Refusal :=
  finish (scrGenerateCommand len s)

/-- The meaning of SCR_APPLY (R227). -/
def execScrApply (data seq : List Byte) (s : State) : Host.Outcome State Fault Refusal :=
  finish (scrApplyCommand data seq s)

end Sys2Proof.Machine
end

