-- ==== Sys2Proof/Machine/Dispatch.lean ====
section
/-! DEFINITION. The dispatch: one arm per constructor of Instr, each one direct call of its meaning. -/

namespace Sys2Proof.Machine

def exec (i : Instr) (s : State) : Host.Outcome State Fault Refusal :=
  match i with
  | .planClocks xtal rate h => Sys2Proof.Machine.execPlanClocks xtal rate h s
  | .powerOn xtal => Sys2Proof.Machine.execPowerOn xtal s
  | .powerOff => Sys2Proof.Machine.execPowerOff s
  | .configureRx rate h freq ifbw => Sys2Proof.Machine.execConfigureRx rate h freq ifbw s
  | .configureTx rate h freq => Sys2Proof.Machine.execConfigureTx rate h freq s
  | .setRxMode => Sys2Proof.Machine.execSetRxMode s
  | .setTxMode => Sys2Proof.Machine.execSetTxMode s
  | .setSyncWord word len tol => Sys2Proof.Machine.execSetSyncWord word len tol s
  | .enableAfc range ki kp => Sys2Proof.Machine.execEnableAfc range ki kp s
  | .disableAfc => Sys2Proof.Machine.execDisableAfc s
  | .readRssi => Sys2Proof.Machine.execReadRssi s
  | .readAfcOffset => Sys2Proof.Machine.execReadAfcOffset s
  | .readTemperature => Sys2Proof.Machine.execReadTemperature s
  | .readSupplyVoltage => Sys2Proof.Machine.execReadSupplyVoltage s
  | .readChipVersion => Sys2Proof.Machine.execReadChipVersion s
  | .reconfigure => Sys2Proof.Machine.execReconfigure s
  | .regWrite v => Sys2Proof.Machine.execRegWrite v s
  | .regRead sel => Sys2Proof.Machine.execRegRead sel s
  | .scrGenerate len => Sys2Proof.Machine.execScrGenerate len s
  | .scrApply data seq => Sys2Proof.Machine.execScrApply data seq s
  | .csCheck => Sys2Proof.Machine.execCsCheck s
  | .txStart => Sys2Proof.Machine.execTxStart s
  | .rxDrainBegin => Sys2Proof.Machine.execRxDrainBegin s
  | .rxDrainEnd => Sys2Proof.Machine.execRxDrainEnd s
  | .configGet id => Sys2Proof.Machine.execConfigGet id s
  | .configSet id v => Sys2Proof.Machine.execConfigSet id v s
  | .serialGet => Sys2Proof.Machine.execSerialGet s
  | .serialSet v => Sys2Proof.Machine.execSerialSet v s
  | .fwRevGet => Sys2Proof.Machine.execFwRevGet s
  | .softReset => Sys2Proof.Machine.execSoftReset s
  | .bootloaderEnter => Sys2Proof.Machine.execBootloaderEnter s
  | .evSyncDetect => Sys2Proof.Machine.execEvSyncDetect s
  | .evByteClock b => Sys2Proof.Machine.execEvByteClock b s
  | .evPowerUpReset => Sys2Proof.Machine.execEvPowerUpReset s

end Sys2Proof.Machine
end

