-- ==== Sys2Proof/Machine/Fetch.lean ====
section
/-! DEFINITION. What a step takes next. The block has no program counter and no fetch (R24, R85): the host and the RF chip deliver bytes, in the order the queue of inputs holds them, and each step takes the command or event at its front (`30_encoding.md` R100, R103, R109, R111; `20_memory.md` R75). -/

namespace Sys2Proof.Machine

/-- What a step finds at the front of the inputs. -/
inductive Fetched where
  /-- nothing to run: the block waits (R370), or bytes that are no input were passed over -/
  | idle (s : State)
  /-- a command the block does not take (R109): INVALID -/
  | invalid (s : State)
  /-- an instruction to run, in the state in which its bytes are taken -/
  | run (i : Instr) (s : State)
  deriving DecidableEq, Repr

/-- The queue once the front packet's bytes are taken up to `rest`: the next command starts there (R109). -/
def queueAfter (source : Source) (rest : List Byte) (later : List Packet) : List Packet :=
  match rest with
  | [] => later
  | b :: bs => ⟨source, b :: bs⟩ :: later

/-- The state with `rest` of the front packet left. -/
def takeTo (source : Source) (rest : List Byte) (later : List Packet) (s : State) : State :=
  { s with inputs := queueAfter source rest later }

/-- A command of the host (R109): an event opcode sent by the host is INVALID, and so are an unassigned opcode (one byte is taken, log entry 4) and bytes that end before the last operand. -/
def fetchHost (bytes : List Byte) (later : List Packet) (s : State) : Fetched :=
  match decode bytes with
  | .ok (i, rest) => if i.isEvent then .invalid (takeTo .host rest later s) else .run i (takeTo .host rest later s)
  | .error (.unassigned _) => .invalid (takeTo .host (bytes.drop 1) later s)
  | .error .truncated => .invalid (takeTo .host [] later s)

/-- An event (R111). Bytes that are none of the three events stand for nothing the RF chip can deliver and are passed over (log entry 6). -/
def fetchEvent (bytes : List Byte) (later : List Packet) (s : State) : Fetched :=
  match decode bytes with
  | .ok (i, rest) => if i.isEvent then .run i (takeTo .event rest later s) else .idle (takeTo .event rest later s)
  | .error _ => .idle (takeTo .event [] later s)

/-- What the next step takes. -/
def fetch (s : State) : Fetched :=
  match s.inputs with
  | [] => .idle s
  | ⟨_, []⟩ :: later => .idle { s with inputs := later }
  | ⟨.host, b :: bs⟩ :: later => fetchHost (b :: bs) later s
  | ⟨.event, b :: bs⟩ :: later => fetchEvent (b :: bs) later s

/-- The packet that delivers the one instruction of an opcode-table word: an event from its own agent, every other word from the host (R111). -/
def tablePacket (nbits w : Nat) : Packet :=
  let bytes := tableWordBytes nbits w
  match decode bytes with
  | .ok (i, _) => ⟨if i.isEvent then .event else .host, bytes⟩
  | .error _ => ⟨.host, bytes⟩

end Sys2Proof.Machine
end

