-- ==== Sys2Proof/Machine/Step.lean ====
section
/-! DEFINITION. One step of the machine (`20_memory.md` R75): from a faulted or refused state no step is defined (R333, R334); else the command or event at the front of the inputs runs, as one atomic step. -/

namespace Sys2Proof.Machine

/-- One step. -/
def step (s : State) : Host.Outcome State Fault Refusal :=
  match s.faults with
  | f :: _ => .fault f
  | [] =>
    if s.refused then .refused .bootloader
    else
      match fetch s with
      | .idle s' => .next s'
      | .invalid s' => .next (answerInvalid s')
      | .run i s' => exec i s'

/-- `s` with the one instruction of an opcode-table word delivered before anything else, so that the very next step runs it. -/
def State.withFetchWord (s : State) (nbits w : Nat) : State :=
  { s with inputs := tablePacket nbits w :: s.inputs }

end Sys2Proof.Machine
end

