-- ==== Sys2Proof/Machine/Assembly.lean ====
section
/-! DEFINITION. The assembler syntax of commands and events (`30_encoding.md` R101, R107). -/

namespace Sys2Proof.Machine

/-- The mnemonic of each command and event (R107). -/
def mnemonic : Instr → String
  | .planClocks _ _ _ => "PLAN_CLOCKS"
  | .powerOn _ => "POWER_ON"
  | .powerOff => "POWER_OFF"
  | .configureRx _ _ _ _ => "CONFIGURE_RX"
  | .configureTx _ _ _ => "CONFIGURE_TX"
  | .setRxMode => "SET_RX_MODE"
  | .setTxMode => "SET_TX_MODE"
  | .setSyncWord _ _ _ => "SET_SYNC_WORD"
  | .enableAfc _ _ _ => "ENABLE_AFC"
  | .disableAfc => "DISABLE_AFC"
  | .readRssi => "READ_RSSI"
  | .readAfcOffset => "READ_AFC_OFFSET"
  | .readTemperature => "READ_TEMPERATURE"
  | .readSupplyVoltage => "READ_SUPPLY_VOLTAGE"
  | .readChipVersion => "READ_CHIP_VERSION"
  | .reconfigure => "RECONFIGURE"
  | .regWrite _ => "REG_WRITE"
  | .regRead _ => "REG_READ"
  | .scrGenerate _ => "SCR_GENERATE"
  | .scrApply _ _ => "SCR_APPLY"
  | .csCheck => "CS_CHECK"
  | .txStart => "TX_START"
  | .rxDrainBegin => "RX_DRAIN_BEGIN"
  | .rxDrainEnd => "RX_DRAIN_END"
  | .configGet _ => "CONFIG_GET"
  | .configSet _ _ => "CONFIG_SET"
  | .serialGet => "SERIAL_GET"
  | .serialSet _ => "SERIAL_SET"
  | .fwRevGet => "FW_REV_GET"
  | .softReset => "SOFT_RESET"
  | .bootloaderEnter => "BOOTLOADER_ENTER"
  | .evSyncDetect => "EV_SYNC_DETECT"
  | .evByteClock _ => "EV_BYTE_CLOCK"
  | .evPowerUpReset => "EV_POWER_UP_RESET"

/-- One hexadecimal digit, upper case as R101 writes it. -/
def hexDigit (v : BitVec 4) : String :=
  String.ofList [if v.toNat < 10 then Char.ofNat (48 + v.toNat) else Char.ofNat (55 + v.toNat)]

/-- A byte as `0x` hexadecimal (R101). -/
def hexByte (b : Byte) : String := "0x" ++ hexDigit (b.extractLsb' 4 4) ++ hexDigit (b.setWidth 4)

/-- A RAT operand as a fraction n/d (R101). -/
def showRat (q : RatArg) : String := toString q.num.toInt ++ "/" ++ toString q.den.toNat

/-- Operands separated by commas (R101). -/
def joinOperands : List String → String
  | [] => ""
  | [x] => x
  | x :: xs => x ++ ", " ++ joinOperands xs

/-- A BYTES operand as a bracketed list of bytes (R101). -/
def showBytes (l : List Byte) : String := "[" ++ joinOperands (l.map hexByte) ++ "]"

/-- A u8, u16, u32 or SEL5 operand as a decimal number (R101). -/
def showNat (n : Nat) : String := toString n

/-- The operands of a command in the order of R107, as R101 writes them. -/
def operandTexts : Instr → List String
  | .planClocks xtal rate h => [showNat xtal.toNat, showRat rate, showRat h]
  | .powerOn xtal => [showNat xtal.toNat]
  | .configureRx rate h freq ifbw => [showRat rate, showRat h, showNat freq.toNat, showNat ifbw.toNat]
  | .configureTx rate h freq => [showRat rate, showRat h, showNat freq.toNat]
  | .setSyncWord word len tol => [showNat word.toNat, showNat len.toNat, showNat tol.toNat]
  | .enableAfc range ki kp => [showNat range.toNat, showNat ki.toNat, showNat kp.toNat]
  | .regWrite v => [showNat v.toNat]
  | .regRead sel => [showNat sel.toNat]
  | .scrGenerate len => [showNat len.toNat]
  | .scrApply data seq => [showBytes data, showBytes seq]
  | .configGet id => [showNat id.toNat]
  | .configSet id .absent => [showNat id.toNat]
  | .configSet id (.u8 b) => [showNat id.toNat, showNat b.toNat]
  | .configSet id (.u32 w) => [showNat id.toNat, showNat w.toNat]
  | .configSet id (.rat q) => [showNat id.toNat, showRat q]
  | .serialSet v => [showNat v.toNat]
  | .evByteClock _ | .powerOff | .setRxMode | .setTxMode | .disableAfc | .readRssi | .readAfcOffset | .readTemperature | .readSupplyVoltage
  | .readChipVersion | .reconfigure | .csCheck | .txStart | .rxDrainBegin | .rxDrainEnd | .serialGet | .fwRevGet | .softReset
  | .bootloaderEnter | .evSyncDetect | .evPowerUpReset => []

/-- A command or event in assembler syntax (R101): the mnemonic, then its operands separated by commas; the byte of EV_BYTE_CLOCK stands in parentheses. -/
def assembly : Instr → String
  | .evByteClock b => mnemonic (.evByteClock b) ++ "(" ++ hexByte b ++ ")"
  | i =>
    match operandTexts i with
    | [] => mnemonic i
    | l => mnemonic i ++ " " ++ joinOperands l

end Sys2Proof.Machine
end

