-- ==== Sys2Proof/Machine/Observe.lean ====
section
/-! DEFINITION. What can be observed of a run (R49, R70): the state a step ends in, also where it faults or is refused (R333, R334), and what the history says of the RF chip (R23, R72) and of the air (R119). -/

namespace Sys2Proof.Machine

/-- The state a step ends in: the next state, or the faulted or refused state the model is then stuck in (R11, R333, R334). -/
def afterStep (s : State) : State :=
  match step s with
  | .next t => t
  | .fault f => raiseFault f s
  | .refused _ => markRefused s

/-- What one event does to the word the chip's register `a` holds: a BusWrite with that address field puts its word there (R72), and SetCE(0) takes the chip's power and with it every copy (R351). A BusRead changes none (DESIGN CHOICE, log entry 28). -/
def chipAfter (a : RegAddr) (held : Option Word) : Event → Option Word
  | .busWrite v => if addrOf v = a then some v else held
  | .setCe false => none
  | _ => held

/-- What the chip's register `a` holds as a function of the bus history (R23): the word written last since the chip was last powered off, none where none was. A power cycle of the whole device records no event (R370), so the words written before it are not taken away (DESIGN CHOICE, log entry 28). -/
def chipRegister (a : RegAddr) (history : List Event) : Option Word := history.foldl (chipAfter a) none

/-- The bytes presented to the chip's transmit path, in order (R10, R119). -/
def airBytes : List Event → List Byte
  | [] => []
  | .txOut b :: later => b :: airBytes later
  | _ :: later => airBytes later

/-- The air byte stream of one TX frame of type `t` with payload `f` and `n` training bytes (R119). -/
def airFrame (c : Config) (n : Nat) (t : FrameType) (f : List Byte) : List Byte :=
  List.replicate n c.trainingSymbol ++ txPreamble c t ++ f

/-! ### What statements speak of -/

/-- The events one step appended: those beyond the ones `s` already had (R70). -/
def newEvents (s t : State) : List Event := t.history.drop s.history.length

/-- The BusWrite events of an ordered list of (address, payload) pairs (R170). -/
def stagedEvents (l : List (RegAddr × Nat)) : List Event := l.map fun x => .busWrite (staged x.1 x.2)

/-- The `sys` image after an ordered list of (address, payload) pairs is written (R22, R33, R170). -/
def sysAfter (m : Image) (l : List (RegAddr × Nat)) : Image := l.foldl (fun m x => imageSet m x.1 (staged x.1 x.2)) m

/-- The instructions one after another, each in the state the one before left; the first stop ends the run. -/
def execAll : List Instr → State → Host.Outcome State Fault Refusal
  | [], s => .next s
  | i :: later, s =>
    match exec i s with
    | .next t => execAll later t
    | .fault f => .fault f
    | .refused r => .refused r

/-- The scrambler register before output bit `n` (R220, R221). -/
def scramblerRegisterAt : Nat → ScramblerRegister
  | 0 => scramblerSeed
  | n + 1 => (scramblerStep (scramblerRegisterAt n)).2

/-- The output bit stream s[0], s[1], ... (R221). -/
def scramblerStream (n : Nat) : Bool := (scramblerStep (scramblerRegisterAt n)).1

/-- The prefix error count of bytes compared with the callsign tail from place `k` on (R251). -/
def prefixErrors (c : Config) : Nat → List Byte → Nat
  | _, [] => 0
  | k, b :: bs => hd b ((callsignTail c).getD k 0) + prefixErrors c (k + 1) bs

/-- The first cells of a payload memory hold exactly these bytes (R118). -/
def Holds (m : Memory) (l : List Byte) : Prop := ∀ j < l.length, Memory.read m j = l[j]?

/-- A frame is in progress (R173). -/
abbrev midFrame (s : State) : Prop := s.rxState ≠ .idle ∨ s.txState ≠ .idle

/-- Every address of the sequence is staged (R22, R175, R176). -/
def Staged (m : Image) (l : List RegAddr) : Prop := ∀ a ∈ l, imageAt m a ≠ none

/-- The state after one readback of `w` by `sel` that is answered with `res` (R73, R183 to R187, R190). -/
def afterRead (sel : Selector) (w : Word) (res : Result) (s : State) : State :=
  { s with history := s.history ++ [.busRead sel w], drawCount := s.drawCount + 1, reply := some ⟨.ok, some res⟩ }

/-- CFG as a table: place n holds the value of the field with id n, 0x00 to 0x10 (R35). -/
def configTable (r : ConfigRecord) : List ConfigValue :=
  [.nat r.rxFreq, .nat r.txFreq, .rat r.modIndex, .rat r.bitrate, .rat r.csThreshold, .nat r.paPower, .bool r.afcEnable, .nat r.afcRange, .nat r.afcKi,
   .nat r.afcKp, .nat r.ifBwClass, .nat r.trainingBytes, .nat r.syncWord, .nat r.syncLen, .nat r.syncTol, .nat r.txTimeout, .nat r.rxTimeout]

/-- The BusWrite of what is staged at an address (R178, R179); no event where nothing is staged. -/
def writeEvent (m : Image) (a : RegAddr) : List Event :=
  match imageAt m a with
  | some v => [.busWrite v]
  | none => []

/-- The events of `tx_mode_switch()` in order (R178), the skip of R177 written out: the shared clock register, coming from Receiving, where the two staged values are equal. -/
def txSwitchEvents (c : Config) (s : State) : List Event :=
  (if s.paWarm then [] else writeEvent s.stageTx c.regPa)
    ++ (c.txSeq.filter fun a => a ≠ c.regPll ∧ ¬ (a = c.regClk ∧ s.mode = .receiving ∧ imageAt s.stageRx a = imageAt s.stageTx a)).flatMap
      (writeEvent s.stageTx)
    ++ [.setTr true] ++ writeEvent s.stageTx c.regPll

/-- The events of `rx_mode_switch()` in order (R179), the skip of R177 written out: the shared clock register, coming from Transmitting, where the two staged values are equal. -/
def rxSwitchEvents (c : Config) (s : State) : List Event :=
  c.rxSeq.flatMap fun a =>
    (if a = c.regClk ∧ s.mode = .transmitting ∧ imageAt s.stageTx a = imageAt s.stageRx a then [] else writeEvent s.stageRx a)
      ++ (if a = c.regPll then [.setTr false] else [])

end Sys2Proof.Machine
end

