-- ==== Sys2Proof/Machine/Pseudo.lean ====
section
/-! DEFINITION. The pseudo-commands (`30_encoding.md` R122; `43_frame_engine.md` R275; `44_host_interface.md` R308; `70_reset_and_hazards.md` R372): what each expands to. A pseudo-command has no opcode; each command of its expansion is a step of its own, and what depends on the state is decided in the state in which its turn comes. -/

namespace Sys2Proof.Machine

/-- The two parts of a main-loop pass that issue commands of the pass itself (R275 (1), (2)); part (3), the host's own requests, is an argument of `runMainPass`. -/
inductive PassPart where
  | drain
  | send
  deriving DecidableEq, Repr

/-- The pseudo-commands of R122. MAIN_PASS stands part by part: each part is expanded in the state it starts in. The per-field setters and getters are `setField` and `getField` with the id of `setterIds`. -/
inductive Pseudo where
  | directionSwitch (d : Dir)
  | setField (id : Byte) (v : ConfigArg)
  | getField (id : Byte)
  | rawRxRead
  | rawTx
  | whiten (data : List Byte)
  | mainPass (part : PassPart)
  | boot
  deriving DecidableEq, Repr

/-- The CFG id each named setter of R122 writes. -/
def setterIds : List (String × Byte) :=
  [("SET_RX_FREQ", 0x00#8), ("SET_TX_FREQ", 0x01#8), ("SET_MOD_INDEX", 0x02#8), ("SET_BITRATE", 0x03#8), ("SET_CS_THRESHOLD", 0x04#8),
   ("SET_PA_POWER", 0x05#8), ("SET_AFC_ENABLE", 0x06#8), ("SET_AFC_RANGE", 0x07#8), ("SET_AFC_KI", 0x08#8), ("SET_AFC_KP", 0x09#8),
   ("SET_IF_BW", 0x0A#8), ("SET_TRAINING", 0x0B#8), ("SET_SYNC_VALUE", 0x0C#8), ("SET_SYNC_LENGTH", 0x0D#8), ("SET_SYNC_TOL", 0x0E#8)]

/-- The test a part of the pass begins with (R275), in the state the part starts in. -/
def PassPart.due (s : State) : PassPart → Bool
  | .drain => (backBuf s).ready && !s.drainPending
  | .send => s.mode == .receiving && s.rxState == .idle && s.txState == .idle

/-- The commands of a part whose test holds (R275): the drain, which the host consumes the record of between the two, or a try to send. -/
def PassPart.commands : PassPart → List Instr
  | .drain => [.rxDrainBegin, .rxDrainEnd]
  | .send => [.txStart]

/-- The commands a pseudo-command expands to (R122), in the state it starts in; a main-loop pass part by part (`runMainPass`). WHITEN applies the sequence its first command returns; for data of more than 65535 bytes, whose length is no u16 operand, the spec gives no expansion, and SCR_GENERATE is given the length modulo 2^16 while SCR_APPLY is given the sequence of the whole length (DESIGN CHOICE, log entry 29). BOOT passes XTAL_DEFAULT as a u32 operand (log entry 19). -/
def expand (c : Config) (s : State) : Pseudo → List Instr
  | .directionSwitch .rx => [.setRxMode]
  | .directionSwitch .tx => [.setTxMode]
  | .setField id v => [.configSet id v]
  | .getField id => [.configGet id]
  | .rawRxRead => [.rxDrainBegin, .rxDrainEnd]
  | .rawTx => []
  | .whiten d => [.scrGenerate (BitVec.ofNat 16 d.length), .scrApply d (generateSequence d.length)]
  | .mainPass p => if p.due s then p.commands else []
  | .boot => [.powerOn (BitVec.ofNat 32 c.xtalDefault), .reconfigure]

/-- Commands one after another, with the events delivered between two neighbours: `between k` after the k-th command, and none after the last (R275: events may be delivered between any two steps). -/
def withEvents : List Instr → List (List Instr) → List Instr
  | [], _ => []
  | [i], _ => [i]
  | i :: j :: is, [] => i :: withEvents (j :: is) []
  | i :: j :: is, es :: later => i :: es ++ withEvents (j :: is) later

/-- One main-loop pass (R275): the drain part, decided in the state the pass starts in; then the send part, decided in the state that the drain and the events after it left; then what the host requests. `inDrain` are the events delivered between the two drain commands, if the drain runs, `afterDrain` those delivered before the second test, and `requests` the host's commands of part (3), with the events delivered among them. The first step that stops ends the pass. -/
def runMainPass (c : Config) (inDrain afterDrain requests : List Instr) (s : State) : Host.Outcome State Fault Refusal :=
  match execAll (withEvents (expand c s (.mainPass .drain)) [inDrain] ++ afterDrain) s with
  | .next s1 => execAll (expand c s1 (.mainPass .send) ++ requests) s1
  | .fault f => .fault f
  | .refused r => .refused r

end Sys2Proof.Machine
end

