-- ==== Sys2Proof/Safety.lean ====
section
/-! DEFINITION. What counts as a good state: the invariants of `10_state.md` R50, and the facts about staged images, buffers and counters that the rules rely on beside them (R21, R37, R39, R61, R116, R251 to R259). -/

namespace Sys2Proof.Safety

open Sys2Proof.Machine

/-- INV1 to INV11 (R50). -/
structure SpecInvariants (c : Config) (s : State) : Prop where
  inv1 : s.syncArmed = true → s.mode = .receiving ∧ s.rxState = .idle ∧ s.txState = .idle ∧ s.byteclkEn = false
  inv2 : s.byteclkEn = true ↔ (s.rxState ≠ .idle ∨ s.txState ≠ .idle)
  inv3 : s.rxState = .idle ∨ s.txState = .idle
  inv4 : (frontBuf s).ready = false
  inv5 : s.txState ≠ .idle → s.mode = .transmitting
  inv6 : s.rxState ≠ .idle → s.mode = .receiving
  inv7 : s.quarantine ≤ c.quarantineMax
  inv8 : s.drainPending = true → (backBuf s).ready = true
  inv9 : ∀ a v, (imageAt s.stageRx a = some v ∨ imageAt s.stageTx a = some v ∨ imageAt s.sys a = some v) → addrOf v = a
  inv10 : s.mode = .off → s.ce = false ∧ s.syncArmed = false ∧ s.byteclkEn = false ∧ s.rxState = .idle ∧ s.txState = .idle
  inv11 : (s.mode = .receiving → s.planRx ≠ none) ∧ (s.mode = .transmitting → s.planTx ≠ none)

/-- The first `n` payload cells of a buffer hold a byte (R61). -/
def Written (b : FrameBuffer) (n : Nat) : Prop := ∀ j < n, Memory.read b.payload j ≠ none

/-- What holds of each frame buffer at any time (R37, R61, R77, R116): flags bits 7:1 are 0, progress is at most size, the payload's cells lie within 0..MAX-1, and a ready buffer's body was written. That the payload is in canonical form is a fact about the model's own representation (log entry 13). -/
structure BufferGood (c : Config) (b : FrameBuffer) : Prop where
  flags : b.flags = 0x00#8 ∨ b.flags = 0x01#8
  progress : b.progress ≤ b.size
  canonical : Memory.wf b.payload
  inside : ∀ x ∈ b.payload, x.1 < c.maxPayload
  ready_size : b.ready = true → b.size ≤ c.maxPayload
  ready_written : b.ready = true → Written b b.size

/-- The ranges R27 gives the dividers of a plan. -/
structure PlanInRange (p : ChannelPlan) : Prop where
  dem : 1 ≤ p.derived.demClkDivide ∧ p.derived.demClkDivide ≤ 14
  cdr : 1 ≤ p.derived.cdrClkDivide ∧ p.derived.cdrClkDivide ≤ 255
  disc : p.derived.discBw ≤ 660

/-- What the mode switches and the byte-clock rules rely on: a planned direction is staged, and the counters of the frame in progress are where its sub-state says (R22, R39, R175, R176, R250 to R259, R271). -/
structure Working (c : Config) (s : State) : Prop where
  xtal : 0 < s.xtalHz
  staged_rx : s.planRx ≠ none → ∀ a ∈ c.rxSeq, imageAt s.stageRx a ≠ none
  staged_tx : s.planTx ≠ none → (∀ a ∈ c.txSeq, imageAt s.stageTx a ≠ none) ∧ imageAt s.stageTx c.regPa ≠ none
  plan_rx : ∀ p, s.planRx = some p → PlanInRange p
  plan_tx : ∀ p, s.planTx = some p → PlanInRange p
  buf_front : BufferGood c (frontBuf s)
  buf_back : BufferGood c (backBuf s)
  rx_armed : s.rxState = .armed → (frontBuf s).progress = 0 ∧ (frontBuf s).size = c.rxPrefixLen + 1
  rx_preamble : s.rxState = .preamble → 1 ≤ (frontBuf s).progress ∧ (frontBuf s).progress ≤ c.rxPrefixLen ∧ (frontBuf s).size = c.rxPrefixLen + 1
  rx_body : s.rxState = .body → (frontBuf s).size = c.frameLen s.ftype ∧ (frontBuf s).progress < (frontBuf s).size ∧ Written (frontBuf s) (frontBuf s).progress
  tx_frame : s.txState ≠ .idle → (frontBuf s).size = c.frameLen s.ftype ∧ Written (frontBuf s) (frontBuf s).size ∧ s.planRx ≠ none
  tx_training : s.txState = .training → 1 ≤ (frontBuf s).trainingRemaining ∧ (frontBuf s).progress = 0
  tx_preamble : s.txState = .preamble → s.preIdx ≤ c.callsign.length ∧ (frontBuf s).progress = 0

/-- A good state: the spec's invariants and what goes with them. -/
structure Good (c : Config) (s : State) : Prop where
  spec : SpecInvariants c s
  working : Working c s

/-- A step that stays within the spec's rules: it does not stop where the spec has no rule for the state, nor on a payload cell nobody wrote (R61: "cannot arise"). -/
def WithinRules (s : State) : Prop := step s ≠ .fault .noRule ∧ step s ≠ .fault .unwritten

/-- The outputs follow the mode: the chip is powered exactly outside Off, and the T/R switch transmits exactly in Transmitting (R30, R171, R172, R178, R179). -/
structure OutputsFollowMode (s : State) : Prop where
  ce : s.ce = true ↔ s.mode ≠ .off
  trsw : s.trsw = true ↔ s.mode = .transmitting

/-- The rows of R60 that every reset sets: a field at its reset value each. `rssi`, `freq` and `ftype` have no row with a value; `serial`, `faults`, `refused` and `history` differ between the resets. -/
structure ResetFields (c : Config) (s : State) : Prop where
  mode : s.mode = .off
  xtal : s.xtalHz = c.xtalDefault
  plans : s.planRx = none ∧ s.planTx = none ∧ s.planErrorRx = false ∧ s.planErrorTx = false
  images : ∀ a, imageAt s.stageRx a = none ∧ imageAt s.stageTx a = none ∧ imageAt s.sys a = none
  outputs : s.paWarm = false ∧ s.trsw = false ∧ s.ce = false
  afc : s.afcOn = false ∧ s.afcActive = none
  sync : s.syncActive = ⟨c.defaults.syncWord, c.defaults.syncLen, c.defaults.syncTol⟩
  cfg : s.cfg = c.defaults
  buffers : ∀ i : Fin 2, s.buf[i].size = 0 ∧ s.buf[i].progress = 0 ∧ s.buf[i].trainingRemaining = 0 ∧ s.buf[i].flags = 0x00#8
  cells : ∀ (i : Fin 2) (j : Nat), Memory.read s.buf[i].payload j = none
  front : s.front = 0
  states : s.rxState = .idle ∧ s.txState = .idle ∧ s.rxErr = 0 ∧ s.preIdx = 0
  enables : s.syncArmed = false ∧ s.byteclkEn = false
  counters : s.quarantine = 0 ∧ s.drainPending = false

/-- Both payload memories are in canonical form: R37 and R61 give the cells, the strictly rising addresses are the model's own representation of them (log entry 13). -/
def PayloadsCanonical (s : State) : Prop := Memory.wf (frontBuf s).payload ∧ Memory.wf (backBuf s).payload

end Sys2Proof.Safety
end

