-- ==== Sys2Proof/Certificates/Slice0/Obligations.lean ====
section
/-! DEFINITION. The statements for the provers, one definition each, in the order of OBLIGATIONS.json. `Config.actual` is the one block the machine runs under, of which nothing but R6 is known: each statement holds for every parameter record and every draw. -/

open Sys2Proof Sys2Proof.Machine Sys2Proof.Safety

/-! ### Encoding and steps -/

/-- Words written out from R102, R103, R104 and R107 decode to the commands and events they stand for. -/
def Obligations.DecodesWrittenOutForms : Prop :=
  decode [0x10#8, 0x00#8, 0xF4#8, 0x24#8, 0x00#8] = .ok (.powerOn 16000000#32, [])
    ∧ decode [0x1F#8, 0x00#8, 0x00#8, 0xA5#8, 0xC7#8, 0x11#8] = .ok (.regWrite 0x0000A5C7#32, [0x11#8])
    ∧ decode [0x20#8, 0x27#8] = .ok (.regRead 7#5, [])
    ∧ decode [0x51#8, 0x04#8, 0xFF#8, 0xFF#8, 0xFF#8, 0x9C#8, 0x00#8, 0x00#8, 0x00#8, 0x01#8] = .ok (.configSet 0x04#8 (.rat ⟨-100#32, 1#32⟩), [])
    ∧ decode [0x30#8, 0x00#8, 0x04#8] = .ok (.scrGenerate 4#16, [])
    ∧ decode [0x31#8, 0x00#8, 0x01#8, 0xAB#8, 0x00#8, 0x00#8] = .ok (.scrApply [0xAB#8] [], [])
    ∧ decode [0x41#8] = .ok (.txStart, [])
    ∧ decode [0xE1#8, 0x5A#8] = .ok (.evByteClock 0x5A#8, [])

/-- R102 to R104, R107: decoding the byte form of a well-formed command or event gives it back, and what follows it, for every operand value. -/
def Obligations.DecodeOfEncodeIsIdentity : Prop :=
  ∀ (i : Instr) (rest : List Byte), i.wellFormed = true → decode (encode i ++ rest) = .ok (i, rest)

/-- R102, R103, R110: what the decoder accepts is the byte form of what it answers, but for bits 7:5 of a SEL5 byte, which it ignores. -/
def Obligations.EncodeOfDecodeIsIdentity : Prop :=
  ∀ (l : List Byte) (i : Instr) (rest : List Byte), decode l = .ok (i, rest) →
    l = encode i ++ rest ∨ ∃ b : Byte, i = .regRead (b.setWidth 5) ∧ l = 0x20#8 :: b :: rest

/-- R109: the unassigned opcodes are exactly the ones listed. -/
def Obligations.UnassignedOpcodesAreTheListedOnes : Prop :=
  ∀ (op : Byte) (rest : List Byte), decode (op :: rest) = .error (.unassigned op) ↔
    op = 0x00#8 ∨ (0x02#8 ≤ op ∧ op ≤ 0x0F#8) ∨ (0x21#8 ≤ op ∧ op ≤ 0x2F#8) ∨ (0x32#8 ≤ op ∧ op ≤ 0x3F#8)
      ∨ (0x44#8 ≤ op ∧ op ≤ 0x4F#8) ∨ (0x57#8 ≤ op ∧ op ≤ 0xDF#8) ∨ 0xE3#8 ≤ op

/-- R75, R100, R109, R111: a step runs the command or event at the front of the inputs; an event opcode of the host, an unassigned opcode and bytes that end too early answer INVALID and change nothing else. With no input the block waits (R370). How many bytes an INVALID takes is the model's choice (log entry 4). -/
def Obligations.StepRunsTheDecodedInput : Prop :=
  ∀ (s : State) (b : Byte) (bytes : List Byte) (later : List Packet), s.faults = [] → s.refused = false →
    (s.inputs = ⟨.host, b :: bytes⟩ :: later →
      match decode (b :: bytes) with
      | .ok (i, rest) =>
        if i.isEvent then step s = .next { s with inputs := queueAfter .host rest later, reply := some ⟨.invalid, none⟩ }
        else step s = exec i { s with inputs := queueAfter .host rest later }
      | .error (.unassigned _) => step s = .next { s with inputs := queueAfter .host bytes later, reply := some ⟨.invalid, none⟩ }
      | .error .truncated => step s = .next { s with inputs := later, reply := some ⟨.invalid, none⟩ })
    ∧ (s.inputs = ⟨.event, b :: bytes⟩ :: later →
      ∀ i rest, decode (b :: bytes) = .ok (i, rest) → i.isEvent = true → step s = exec i { s with inputs := queueAfter .event rest later })
    ∧ (s.inputs = [] → step s = .next s)

/-- R333, R334: no step is defined from a faulted or a refused state, and a step that faults discards what it did and adds the reason. -/
def Obligations.FaultedAndRefusedStatesAreStuck : Prop :=
  ∀ s : State,
    (s.faults ≠ [] → ∀ t, step s ≠ .next t)
    ∧ (s.refused = true → ∀ t, step s ≠ .next t)
    ∧ (∀ f, step s = .fault f → afterStep s = { s with faults := f :: s.faults })
    ∧ (∀ r, step s = .refused r → afterStep s = { s with refused := true })

/-- R309, R334: BOOTLOADER_ENTER is refused in every state, the state is marked refused, and no later step is defined. -/
def Obligations.BootloaderEnterIsRefused : Prop :=
  (∀ s : State, exec .bootloaderEnter s = .refused .bootloader)
    ∧ ∀ (s : State) (later : List Packet), s.faults = [] → s.inputs = ⟨.host, [0x56#8]⟩ :: later →
      step s = .refused .bootloader ∧ (afterStep s).refused = true ∧ ∀ t, step (afterStep s) ≠ .next t

/-! ### Reset -/

/-- R60: the reset values, after the initial reset, a later power-up reset and a soft reset. -/
def Obligations.ResetsGiveTheResetValues : Prop :=
  ResetFields Config.actual State.reset
    ∧ (State.reset.serial = Config.actual.nvSerialInit ∧ State.reset.faults = [] ∧ State.reset.refused = false ∧ State.reset.history = [])
    ∧ (∀ s t, exec .evPowerUpReset s = .next t → ResetFields Config.actual t ∧ t.serial = s.serial ∧ t.history = s.history)
    ∧ ∀ s t, exec .softReset s = .next t → ResetFields Config.actual t ∧ t.serial = s.serial ∧ ∃ events, t.history = s.history ++ events

/-- R370, R371, R306: both later resets complete in every state, keep the serial number and the history, and a soft reset alone records the outputs it drives. The unspecified values (rssi and freq of each buffer, ftype) are any, and everything else of both buffers is cleared. What the model keeps beside them (inputs, the reply, the draw count) is its own choice (log entry 9). -/
def Obligations.LaterResetsComplete : Prop :=
  ∀ s : State, ∃ (r0 f0 r1 f1 : Rat) (ft : FrameType),
    exec .evPowerUpReset s = .next { State.reset with
      buf := #v[FrameBuffer.cleared r0 f0, FrameBuffer.cleared r1 f1], ftype := ft, serial := s.serial, faults := s.faults, refused := s.refused, history := s.history
      inputs := s.inputs, drawCount := s.drawCount + 5, reply := s.reply }
    ∧ exec .softReset s = .next { State.reset with
      buf := #v[FrameBuffer.cleared r0 f0, FrameBuffer.cleared r1 f1], ftype := ft, serial := s.serial, faults := s.faults, refused := s.refused
      history := s.history ++ (if s.trsw then [.setTr false] else []) ++ (if s.ce then [.setCe false] else [])
      inputs := s.inputs, drawCount := s.drawCount + 5, reply := some ⟨.ok, none⟩ }

/-! ### Host configuration -/

/-- R303, R304, R305: the serial number is written and read whole, and the firmware revision is read. -/
def Obligations.SerialAndRevisionCommands : Prop :=
  ∀ (v : Word) (s : State),
    exec (.serialSet v) s = .next { s with serial := v, reply := some ⟨.ok, none⟩ }
    ∧ exec .serialGet s = .next { s with reply := some ⟨.ok, some (.word s.serial)⟩ }
    ∧ exec .fwRevGet s = .next { s with reply := some ⟨.ok, some (.text Config.actual.fwRev)⟩ }

/-- R45, R87: nothing but SERIAL_SET changes the serial number, no reset either. -/
def Obligations.OnlySerialSetWritesTheSerial : Prop :=
  ∀ (i : Instr) (s t : State), exec i s = .next t → t.serial = s.serial ∨ ∃ v, i = .serialSet v ∧ t.serial = v

/-- R34, R300, R302: nothing but CONFIG_SET and the resets changes CFG. -/
def Obligations.OnlyConfigSetAndResetsWriteTheConfiguration : Prop :=
  ∀ (i : Instr) (s t : State), exec i s = .next t → t.cfg = s.cfg ∨ (∃ id v, i = .configSet id v) ∨ i = .softReset ∨ i = .evPowerUpReset

/-- The CFG value an operand of CONFIG_SET stands for (R104): a RAT's value, a u32, bit 0 of the AFC_ENABLE byte. -/
def configValueOf : ConfigArg → Option ConfigValue
  | .absent => none
  | .u8 b => some (.bool (b.getLsbD 0))
  | .u32 w => some (.nat w.toNat)
  | .rat q => some (.rat ((q.num.toInt : Rat) / (q.den.toNat : Rat)))

/-- R300, R301: after CONFIG_SET of a field, CONFIG_GET of the same id returns the value set and every other field reads as before; nothing else changes but the reply. A read-only or unassigned id (R300) and a malformed RAT (R109) are INVALID. That a value of another field's type, which no byte form gives, is INVALID too is the model's choice (log entry 5). -/
def Obligations.ConfigSetThenGetReturnsTheValue : Prop :=
  ∀ (id : Byte) (v : ConfigArg) (s : State),
    (v.wellFormed id = true → id ≤ 0x10#8 → ∃ (r : ConfigRecord) (x : ConfigValue), configValueOf v = some x
      ∧ exec (.configSet id v) s = .next { s with cfg := r, reply := some ⟨.ok, none⟩ }
      ∧ (∀ t : State, t.cfg = r → exec (.configGet id) t = .next { t with reply := some ⟨.ok, some (.value x)⟩ })
      ∧ ∀ other : Byte, other ≠ id → configField r other = configField s.cfg other)
    ∧ (v.wellFormed id = false ∨ 0x10#8 < id → exec (.configSet id v) s = .next { s with reply := some ⟨.invalid, none⟩ })

/-- R301, R35: CONFIG_GET returns the stored field that the table of R35 gives the id, the STATUS byte for id 0x11, and INVALID above it; it changes nothing but the reply. -/
def Obligations.ConfigGetReturnsFieldsAndStatus : Prop :=
  ∀ (id : Byte) (s : State),
    (id ≤ 0x10#8 → ∃ x, (configTable s.cfg)[id.toNat]? = some x ∧ configField s.cfg id = some x ∧ exec (.configGet id) s = .next { s with reply := some ⟨.ok, some (.value x)⟩ })
    ∧ (0x11#8 < id → exec (.configGet id) s = .next { s with reply := some ⟨.invalid, none⟩ })
    ∧ exec (.configGet 0x11#8) s = .next { s with
        reply := some ⟨.ok, some (.value (.byte (BitVec.ofNat 8 (s.planErrorRx.toNat + 2 * s.planErrorTx.toNat))))⟩ }

/-! ### Clock planner -/

/-- R154: PLAN_CLOCKS answers the planner's record or PLAN_FAIL and changes nothing else; a non-positive input faults, a malformed rational is INVALID. -/
def Obligations.PlanClocksAnswersThePlan : Prop :=
  ∀ (xtal : Word) (rate h : RatArg) (s : State),
    (rate.wellFormed = true → h.wellFormed = true → xtal ≠ 0#32 → 0 < ratValue rate → 0 < ratValue h →
      match planClocks Config.actual xtal.toNat (ratValue rate) (ratValue h) with
      | none => exec (.planClocks xtal rate h) s = .next { s with reply := some ⟨.planFail, none⟩ }
      | some r => exec (.planClocks xtal rate h) s = .next { s with reply := some ⟨.ok, some (.plan r)⟩ })
    ∧ (rate.wellFormed = true → h.wellFormed = true → xtal = 0#32 ∨ ratValue rate ≤ 0 ∨ ratValue h ≤ 0 →
      exec (.planClocks xtal rate h) s = .fault .range)
    ∧ (rate.wellFormed = false ∨ h.wellFormed = false → exec (.planClocks xtal rate h) s = .next { s with reply := some ⟨.invalid, none⟩ })

/-- R143 to R153: a plan's values are the spec's formulas of its divider; the divider is accepted and no accepted divider has a smaller error, nor a lower one the same error; there is no plan exactly where the deviation word is 0 or every divider is rejected. -/
def Obligations.PlannerPicksTheBestDivider : Prop :=
  ∀ (xtal : Nat) (rate h : Rat), 0 < xtal → 0 < rate → 0 < h →
    let dev := (h * (1 / 2) * rate * 65536 / ((xtal : Rat) / 2) + 1 / 2).floor
    let fdev := (dev : Rat) * ((xtal : Rat) / 2) / 65536
    let k := (100000 / fdev + 1 / 2).floor
    let clk := fun d : Nat => (xtal : Rat) / d
    let disc := fun d : Nat => ((k : Rat) * clk d / 400000 + 1 / 2).floor
    let cdr := fun d : Nat => (clk d / (rate * 32) + 1 / 2).floor
    let real := fun d : Nat => clk d / ((cdr d : Rat) * 32)
    let accepted := fun d : Nat => 1 ≤ d ∧ d ≤ 14 ∧ disc d ≤ 660 ∧ cdr d ≤ 255 ∧ cdr d ≠ 0
    (∀ r, planClocks Config.actual xtal rate h = some r →
      accepted r.demClkDivide
      ∧ (∀ d, accepted d → |real r.demClkDivide - rate| ≤ |real d - rate|)
      ∧ (∀ d, accepted d → d < r.demClkDivide → |real r.demClkDivide - rate| < |real d - rate|)
      ∧ (r.dev : Int) = dev ∧ r.fdev = fdev ∧ (r.k : Int) = k ∧ (r.discBw : Int) = disc r.demClkDivide
      ∧ (r.cdrClkDivide : Int) = cdr r.demClkDivide ∧ r.realDataRate = real r.demClkDivide ∧ r.realModIndex = 2 * fdev / real r.demClkDivide
      ∧ r.postDemodBw = postDemodBw r.cdrClkDivide ∧ (r.rxInvert, r.dotProduct) = Config.actual.kparity (r.k % 2 == 1) ((r.k + 1) / 2 % 2 == 1))
    ∧ (planClocks Config.actual xtal rate h = none ↔ dev = 0 ∨ ∀ d, ¬ accepted d)

/-- R155: the planner's range guarantee. -/
def Obligations.PlannerStaysInRange : Prop :=
  ∀ (xtal : Nat) (rate h : Rat) (r : PlannerResult), planClocks Config.actual xtal rate h = some r →
    1 ≤ r.demClkDivide ∧ r.demClkDivide ≤ 14 ∧ r.discBw ≤ 660 ∧ 1 ≤ r.cdrClkDivide ∧ r.cdrClkDivide ≤ 255 ∧ 1 ≤ r.postDemodBw ∧ r.postDemodBw ≤ 151

/-- R157: the real rate is within R / (2·cdr) of the desired one; for 16 MHz, 2400 bit/s and index 8 it is 31250/13 with a divider of 208, within 5 %. -/
def Obligations.PlannerRateIsAccurate : Prop :=
  (∀ (xtal : Nat) (rate h : Rat) (r : PlannerResult), 0 < rate → planClocks Config.actual xtal rate h = some r →
    |r.realDataRate - rate| ≤ rate / (2 * (r.cdrClkDivide : Rat)))
    ∧ ∃ r, planClocks Config.actual 16000000 2400 8 = some r ∧ r.cdrClkDivide = 208 ∧ r.realDataRate = 31250 / 13 ∧ |r.realDataRate - 2400| ≤ 2400 * (5 / 100)

/-- R141: the table of the post-demodulation bandwidth is `round(48 / cdr · π)`, and any number within 10⁻⁵ of π gives the same table. -/
def Obligations.PostDemodTableRoundsPi : Prop :=
  ∀ (cdr : Nat) (x : Real), 1 ≤ cdr → cdr ≤ 255 → |x - Real.pi| < 1 / 100000 →
    (postDemodBw cdr : Int) = ⌊(48 / (cdr : Real)) * x + 1 / 2⌋

/-! ### Scrambler -/

/-- R223, R226, R227: SCR_GENERATE answers the sequence and SCR_APPLY the bytes XORed in place, in every mode, and neither changes anything else; a sequence that is too short faults. -/
def Obligations.ScramblerCommandsAnswerBytes : Prop :=
  ∀ (len : BitVec 16) (data seq : List Byte) (s : State),
    exec (.scrGenerate len) s = .next { s with reply := some ⟨.ok, some (.bytes (generateSequence len.toNat))⟩ }
    ∧ (data.length ≤ seq.length → ∃ out : List Byte, out.length = data.length
      ∧ (∀ j < data.length, out.getD j 0 = data.getD j 0 ^^^ seq.getD j 0)
      ∧ exec (.scrApply data seq) s = .next { s with reply := some ⟨.ok, some (.bytes out)⟩ })
    ∧ (seq.length < data.length → exec (.scrApply data seq) s = .fault .seqShort)

/-- R224: applying a sequence twice gives the data back. -/
def Obligations.ScramblerApplyIsSelfInverse : Prop :=
  ∀ (data seq : List Byte), data.length ≤ seq.length →
    ∃ out, applySequence data seq = .ok out ∧ applySequence out seq = .ok data

/-- R221, R222: the output stream begins with eight ones and follows the recurrence, and byte i of the sequence is s[8i] to s[8i+7], most significant bit first. -/
def Obligations.ScramblerStreamAndPacking : Prop :=
  (∀ n < 8, scramblerStream n = true)
    ∧ (∀ n, scramblerStream (n + 8) = (scramblerStream (n + 7) ^^ scramblerStream (n + 5) ^^ scramblerStream (n + 3) ^^ scramblerStream n))
    ∧ ∀ n i k, i < n → k < 8 → ((generateSequence n).getD i 0).getLsbD (7 - k) = scramblerStream (8 * i + k)

/-- R225: length, prefixes, the period 255 of the stream and of the bytes, and the special cases. -/
def Obligations.ScramblerSequenceHasPeriod255 : Prop :=
  (∀ n, (generateSequence n).length = n)
    ∧ (∀ n m, n ≤ m → (generateSequence m).take n = generateSequence n)
    ∧ (∀ n, scramblerStream (n + 255) = scramblerStream n)
    ∧ (∀ p, 0 < p → p < 255 → ∃ n, scramblerStream (n + p) ≠ scramblerStream n)
    ∧ (∀ n i, i + 255 < n → (generateSequence n).getD (i + 255) 0 = (generateSequence n).getD i 0)
    ∧ (∀ p, 0 < p → p < 255 → ∃ n i, i + p < n ∧ (generateSequence n).getD (i + p) 0 ≠ (generateSequence n).getD i 0)
    ∧ (generateSequence 256).getD 254 0 = 0x58#8 ∧ (generateSequence 256).getD 255 0 = 0xFF#8
    ∧ generateSequence 0 = [] ∧ generateSequence 1 = [0xFF#8]

/-! ### Radio controller -/

/-- R171: POWER_ON between frames records the chip enable, the three bring-up writes and the switch release, and sets the fields the rule lists; its faults in their order. -/
def Obligations.PowerOnBringsTheChipUp : Prop :=
  ∀ (xtal : Word) (s : State),
    (xtal ≠ 0#32 → ¬ midFrame s → exec (.powerOn xtal) s = .next { s with
      xtalHz := xtal.toNat, ce := true, sys := sysAfter s.sys (Config.actual.powerOnSeq xtal.toNat).toList, trsw := false, syncArmed := false
      byteclkEn := false, paWarm := false, mode := .idle, reply := some ⟨.ok, none⟩
      history := s.history ++ [.setCe true] ++ stagedEvents (Config.actual.powerOnSeq xtal.toNat).toList ++ (if s.trsw then [.setTr false] else []) })
    ∧ (xtal = 0#32 → exec (.powerOn xtal) s = .fault .range)
    ∧ (xtal ≠ 0#32 → midFrame s → exec (.powerOn xtal) s = .fault .modeMidFrame)

/-- R172: POWER_OFF completes in every state: nothing in Off; else a frame in progress is abandoned, the outputs released and recorded, and the rest kept. R351: no register of the chip then holds a word, its copies being lost with its power. -/
def Obligations.PowerOffCompletesInEveryState : Prop :=
  ∀ s : State,
    (s.mode = .off → exec .powerOff s = .next { s with reply := some ⟨.ok, none⟩ })
    ∧ (s.mode ≠ .off → exec .powerOff s = .next { s with
      buf := if midFrame s then s.buf.set s.front { frontBuf s with progress := 0, size := 0, trainingRemaining := 0 } else s.buf
      rxState := .idle, txState := .idle, rxErr := 0, preIdx := 0, syncArmed := false, byteclkEn := false, trsw := false, ce := false
      paWarm := false, mode := .off, reply := some ⟨.ok, none⟩
      history := s.history ++ (if s.trsw then [.setTr false] else []) ++ [.setCe false] })
    ∧ (s.mode ≠ .off → ∃ t, exec .powerOff s = .next t ∧ ∀ a : RegAddr, chipRegister a t.history = none)

/-- R174, R175: CONFIGURE_RX stores the plan and stages RX_SEQ, or keeps the earlier ones and signals PLAN_FAIL; no bus write; its fault; a malformed rational is INVALID. -/
def Obligations.ConfigureRxStagesThePlan : Prop :=
  ∀ (rate h : RatArg) (freq : Word) (ifbw : Byte) (s : State),
    (rate.wellFormed = true → h.wellFormed = true → 0 < s.xtalHz → 0 < ratValue rate → 0 < ratValue h → freq ≠ 0#32 →
      match planClocks Config.actual s.xtalHz (ratValue rate) (ratValue h) with
      | none => exec (.configureRx rate h freq ifbw) s = .next { s with
          planErrorRx := true, history := s.history ++ [.emit .planFail], reply := some ⟨.planFail, none⟩ }
      | some r => ∃ (plan : ChannelPlan) (stage : Image),
        exec (.configureRx rate h freq ifbw) s = .next { s with planRx := some plan, planErrorRx := false, stageRx := stage, reply := some ⟨.ok, none⟩ }
        ∧ plan = {
          desired := ⟨ratValue rate, ratValue h, freq.toNat⟩
          real := ⟨r.realDataRate, r.realModIndex, (Config.actual.synth s.xtalHz freq.toNat .rx).2, r.fdev⟩
          derived := ⟨r.dev, r.k, r.demClkDivide, r.cdrClkDivide, r.discBw, r.postDemodBw, r.rxInvert, r.dotProduct,
            (Config.actual.synth s.xtalHz freq.toNat .rx).1, ifbw.toNat % 2 ^ Config.actual.ifbwBits⟩ }
        ∧ ∀ a, imageAt stage a =
          if a ∈ Config.actual.rxSeq then some (staged a (Config.actual.packRx plan plan.derived.ifBwClass a)) else imageAt s.stageRx a)
    ∧ (rate.wellFormed = true → h.wellFormed = true → ratValue rate ≤ 0 ∨ ratValue h ≤ 0 ∨ freq = 0#32 → exec (.configureRx rate h freq ifbw) s = .fault .range)
    ∧ (rate.wellFormed = false ∨ h.wellFormed = false → exec (.configureRx rate h freq ifbw) s = .next { s with reply := some ⟨.invalid, none⟩ })

/-- R174, R176: CONFIGURE_TX also stages the PA and clears the warm flag; a malformed rational is INVALID. -/
def Obligations.ConfigureTxStagesThePlanAndThePa : Prop :=
  ∀ (rate h : RatArg) (freq : Word) (s : State),
    (rate.wellFormed = true → h.wellFormed = true → 0 < s.xtalHz → 0 < ratValue rate → 0 < ratValue h → freq ≠ 0#32 →
      match planClocks Config.actual s.xtalHz (ratValue rate) (ratValue h) with
      | none => exec (.configureTx rate h freq) s = .next { s with
          planErrorTx := true, history := s.history ++ [.emit .planFail], reply := some ⟨.planFail, none⟩ }
      | some r => ∃ (plan : ChannelPlan) (stage : Image),
        exec (.configureTx rate h freq) s = .next { s with
          planTx := some plan, planErrorTx := false, stageTx := stage, paWarm := false, reply := some ⟨.ok, none⟩ }
        ∧ plan = {
          desired := ⟨ratValue rate, ratValue h, freq.toNat⟩
          real := ⟨r.realDataRate, r.realModIndex, (Config.actual.synth s.xtalHz freq.toNat .tx).2, r.fdev⟩
          derived := ⟨r.dev, r.k, r.demClkDivide, r.cdrClkDivide, r.discBw, r.postDemodBw, r.rxInvert, r.dotProduct,
            (Config.actual.synth s.xtalHz freq.toNat .tx).1, 0⟩ }
        ∧ ∀ a, imageAt stage a =
          if a = Config.actual.regPa then some (staged a (Config.actual.packPa s.cfg.paPower))
          else if a ∈ Config.actual.txSeq then some (staged a (Config.actual.packTx plan a)) else imageAt s.stageTx a)
    ∧ (rate.wellFormed = true → h.wellFormed = true → ratValue rate ≤ 0 ∨ ratValue h ≤ 0 ∨ freq = 0#32 → exec (.configureTx rate h freq) s = .fault .range)
    ∧ (rate.wellFormed = false ∨ h.wellFormed = false → exec (.configureTx rate h freq) s = .next { s with reply := some ⟨.invalid, none⟩ })

/-- R177, R178, R335: SET_TX_MODE writes the PA once, the TX sequence but for the shared clock, the switch, then the PLL; its faults in their order. -/
def Obligations.SetTxModeSwitches : Prop :=
  ∀ s : State,
    (s.mode ≠ .off → s.planTx ≠ none → ¬ midFrame s → Staged s.stageTx (Config.actual.regPa :: Config.actual.txSeq) →
      exec .setTxMode s = .next { s with
        mode := .transmitting, syncArmed := false, paWarm := true, trsw := true, reply := some ⟨.ok, none⟩
        history := s.history ++ txSwitchEvents Config.actual s })
    ∧ (s.mode = .off → exec .setTxMode s = .fault .busOff)
    ∧ (s.mode ≠ .off → s.planTx = none → exec .setTxMode s = .fault .noPlan)
    ∧ (s.mode ≠ .off → s.planTx ≠ none → midFrame s → exec .setTxMode s = .fault .modeMidFrame)

/-- R177, R179, R335, R385: SET_RX_MODE writes the RX sequence but for the shared clock where the block comes from Transmitting and the two staged values are equal, releases the switch right after the PLL write, and arms sync detection; its faults in their order. From a good state each register of the chip, read from the bus history, then holds its staged value, but the skipped one, which keeps what it held. That a readback changes no register, and what an unrecorded power cycle does, are the model's choice (log entry 28). -/
def Obligations.SetRxModeSwitches : Prop :=
  ∀ s : State,
    (s.mode ≠ .off → s.planRx ≠ none → ¬ midFrame s → Staged s.stageRx Config.actual.rxSeq →
      exec .setRxMode s = .next { s with
        mode := .receiving, syncArmed := true, trsw := false, reply := some ⟨.ok, none⟩, history := s.history ++ rxSwitchEvents Config.actual s })
    ∧ (s.mode = .off → exec .setRxMode s = .fault .busOff)
    ∧ (s.mode ≠ .off → s.planRx = none → exec .setRxMode s = .fault .noPlan)
    ∧ (s.mode ≠ .off → s.planRx ≠ none → midFrame s → exec .setRxMode s = .fault .modeMidFrame)
    ∧ (Good Config.actual s → s.mode ≠ .off → s.planRx ≠ none → ¬ midFrame s → ∃ t, exec .setRxMode s = .next t ∧ ∀ a : RegAddr,
      chipRegister a t.history =
        if a = Config.actual.regClk ∧ s.mode = .transmitting ∧ imageAt s.stageTx a = imageAt s.stageRx a then chipRegister a s.history
        else if a ∈ Config.actual.rxSeq then imageAt s.stageRx a
        else chipRegister a s.history)

/-- R23, R177, R178, R385, R387: what the chip's registers hold after a TX switch, read from the bus history: every register of the sequence its staged value, but the shared clock register where the two staged values are equal and the block comes from Receiving: that one keeps what it held, stale or not. The PA register is written only while it is not warm. That a readback changes no register, and what an unrecorded power cycle does, are the model's choice (log entry 28). -/
def Obligations.TxSwitchProgramsTheChip : Prop :=
  ∀ s : State, Good Config.actual s → s.mode ≠ .off → s.planTx ≠ none → ¬ midFrame s →
    ∃ t, exec .setTxMode s = .next t ∧ ∀ a : RegAddr,
      chipRegister a t.history =
        if a = Config.actual.regClk ∧ s.mode = .receiving ∧ imageAt s.stageRx a = imageAt s.stageTx a then chipRegister a s.history
        else if a ∈ Config.actual.txSeq ∨ (a = Config.actual.regPa ∧ s.paWarm = false) then imageAt s.stageTx a
        else chipRegister a s.history

/-- R180, R181, R182: the sync-word and AFC commands write their register lists in order, image them in `sys`, and keep the settings unmasked; in Off they fault. -/
def Obligations.SyncWordAndAfcCommandsWriteTheirRegisters : Prop :=
  ∀ (word range ki kp : Word) (len tol : Byte) (s : State),
    (s.mode ≠ .off →
      (∀ l, l = Config.actual.syncSeq word.toNat len.toNat tol.toNat → exec (.setSyncWord word len tol) s = .next { s with
        syncActive := ⟨word.toNat, len.toNat, tol.toNat⟩, sys := sysAfter s.sys l, history := s.history ++ stagedEvents l, reply := some ⟨.ok, none⟩ })
      ∧ (∀ l, l = Config.actual.packAfc true range.toNat ki.toNat kp.toNat → exec (.enableAfc range ki kp) s = .next { s with
        afcOn := true, afcActive := some ⟨range.toNat, ki.toNat, kp.toNat⟩, sys := sysAfter s.sys l, history := s.history ++ stagedEvents l
        reply := some ⟨.ok, none⟩ })
      ∧ (∀ k l, k = s.afcActive.getD ⟨0, 0, 0⟩ → l = Config.actual.packAfc false k.range k.ki k.kp → exec .disableAfc s = .next { s with
        afcOn := false, afcActive := none, sys := sysAfter s.sys l, history := s.history ++ stagedEvents l, reply := some ⟨.ok, none⟩ }))
    ∧ (s.mode = .off → exec (.setSyncWord word len tol) s = .fault .busOff ∧ exec (.enableAfc range ki kp) s = .fault .busOff
      ∧ exec .disableAfc s = .fault .busOff)

/-- R183 to R187, R189, R190: each read issues one readback, whose word is whatever the chip answers, and answers its conversion; REG_WRITE sends the word unchanged and images it nowhere; in Off each faults. That the gain code is four neighbouring bits of the word, from the OPEN position on, is the model's choice (log entry 14). -/
def Obligations.ReadbackAndPassthroughCommands : Prop :=
  ∀ (s : State) (sel : Selector) (v : Word),
    (s.mode ≠ .off → ∀ word : Selector → Word, (∀ q, word q = Config.actual.draws.readback s.drawCount q) →
      exec .readRssi s = .next (afterRead Config.actual.selRssi (word Config.actual.selRssi)
          (.rat (Config.actual.convRssi (word Config.actual.selRssi)
            + Config.actual.gainCorr[((word Config.actual.selRssi).extractLsb' Config.actual.gainCodeLo 4).toNat])) s)
      ∧ exec .readAfcOffset s = .next (afterRead Config.actual.selAfc (word Config.actual.selAfc) (.rat (Config.actual.convAfc (word Config.actual.selAfc))) s)
      ∧ exec .readTemperature s = .next (afterRead Config.actual.selTemp (word Config.actual.selTemp) (.rat (Config.actual.convTemp (word Config.actual.selTemp))) s)
      ∧ exec .readSupplyVoltage s = .next (afterRead Config.actual.selVolt (word Config.actual.selVolt) (.rat (Config.actual.convVolt (word Config.actual.selVolt))) s)
      ∧ exec .readChipVersion s = .next (afterRead Config.actual.selVersion (word Config.actual.selVersion)
          (.nat (Config.actual.convVersion (word Config.actual.selVersion))) s)
      ∧ exec (.regRead sel) s = .next (afterRead sel (word sel) (.word (word sel)) s)
      ∧ exec (.regWrite v) s = .next { s with history := s.history ++ [.busWrite v], reply := some ⟨.ok, none⟩ })
    ∧ (s.mode = .off → ∀ i ∈ [Instr.readRssi, .readAfcOffset, .readTemperature, .readSupplyVoltage, .readChipVersion, .regRead sel, .regWrite v],
      exec i s = .fault .busOff)

/-- R188: RECONFIGURE reapplies sync word, RX plan, TX plan and AFC in that order, then forces RX mode, with the frame: on success both plans are the records of R174 and both images hold the packed values of R175 and R176; a plan that fails keeps the earlier plans and images and answers PLAN_FAIL. That from Transmitting the RX switch skips the shared clock where the two restaged values are equal (R188 with R179 and R177), although R385 calls the switch of a RECONFIGURE full, is the model's choice (log entry 30). -/
def Obligations.ReconfigureReappliesEverything : Prop :=
  ∀ s : State, Good Config.actual s → s.mode ≠ .off → ¬ midFrame s → 0 < s.cfg.bitrate → 0 < s.cfg.modIndex → 0 < s.cfg.rxFreq → 0 < s.cfg.txFreq →
    s.planRx ≠ none ∨ planClocks Config.actual s.xtalHz s.cfg.bitrate s.cfg.modIndex ≠ none →
    ∃ (t : State) (failed : Bool) (sync afc : List (RegAddr × Nat)), exec .reconfigure s = .next t
      ∧ failed = (planClocks Config.actual s.xtalHz s.cfg.bitrate s.cfg.modIndex).isNone
      ∧ sync = Config.actual.syncSeq s.cfg.syncWord s.cfg.syncLen s.cfg.syncTol
      ∧ afc = (if s.cfg.afcEnable then Config.actual.packAfc true s.cfg.afcRange s.cfg.afcKi s.cfg.afcKp
          else Config.actual.packAfc false (s.afcActive.getD ⟨0, 0, 0⟩).range (s.afcActive.getD ⟨0, 0, 0⟩).ki (s.afcActive.getD ⟨0, 0, 0⟩).kp)
      ∧ t = { s with
        mode := .receiving, syncArmed := true, trsw := false, syncActive := ⟨s.cfg.syncWord, s.cfg.syncLen, s.cfg.syncTol⟩
        afcOn := s.cfg.afcEnable, afcActive := if s.cfg.afcEnable then some ⟨s.cfg.afcRange, s.cfg.afcKi, s.cfg.afcKp⟩ else none
        sys := sysAfter (sysAfter s.sys sync) afc, planRx := t.planRx, planTx := t.planTx, stageRx := t.stageRx, stageTx := t.stageTx
        planErrorRx := failed, planErrorTx := failed, paWarm := failed && s.paWarm
        history := s.history ++ stagedEvents sync ++ (if failed then [.emit .planFail, .emit .planFail] else []) ++ stagedEvents afc
          ++ rxSwitchEvents Config.actual { t with mode := s.mode }
        reply := some ⟨if failed then .planFail else .ok, none⟩ }
      ∧ (failed = true → t.planRx = s.planRx ∧ t.planTx = s.planTx ∧ t.stageRx = s.stageRx ∧ t.stageTx = s.stageTx)
      ∧ (∀ r, planClocks Config.actual s.xtalHz s.cfg.bitrate s.cfg.modIndex = some r → ∃ rx tx, t.planRx = some rx ∧ t.planTx = some tx
        ∧ rx = {
          desired := ⟨s.cfg.bitrate, s.cfg.modIndex, s.cfg.rxFreq⟩
          real := ⟨r.realDataRate, r.realModIndex, (Config.actual.synth s.xtalHz s.cfg.rxFreq .rx).2, r.fdev⟩
          derived := ⟨r.dev, r.k, r.demClkDivide, r.cdrClkDivide, r.discBw, r.postDemodBw, r.rxInvert, r.dotProduct,
            (Config.actual.synth s.xtalHz s.cfg.rxFreq .rx).1, s.cfg.ifBwClass % 2 ^ Config.actual.ifbwBits⟩ }
        ∧ tx = {
          desired := ⟨s.cfg.bitrate, s.cfg.modIndex, s.cfg.txFreq⟩
          real := ⟨r.realDataRate, r.realModIndex, (Config.actual.synth s.xtalHz s.cfg.txFreq .tx).2, r.fdev⟩
          derived := ⟨r.dev, r.k, r.demClkDivide, r.cdrClkDivide, r.discBw, r.postDemodBw, r.rxInvert, r.dotProduct,
            (Config.actual.synth s.xtalHz s.cfg.txFreq .tx).1, 0⟩ }
        ∧ (∀ a, imageAt t.stageRx a =
          if a ∈ Config.actual.rxSeq then some (staged a (Config.actual.packRx rx rx.derived.ifBwClass a)) else imageAt s.stageRx a)
        ∧ ∀ a, imageAt t.stageTx a =
          if a = Config.actual.regPa then some (staged a (Config.actual.packPa s.cfg.paPower))
          else if a ∈ Config.actual.txSeq then some (staged a (Config.actual.packTx tx a)) else imageAt s.stageTx a)

/-- R188, R335: RECONFIGURE faults in the order of its checks: an unpowered chip, a frame in progress, a setting that is not positive, and, where no plan comes out, no earlier RX plan. -/
def Obligations.ReconfigureFaultsInOrder : Prop :=
  ∀ s : State,
    (s.mode = .off → exec .reconfigure s = .fault .busOff)
    ∧ (s.mode ≠ .off → midFrame s → exec .reconfigure s = .fault .modeMidFrame)
    ∧ (s.mode ≠ .off → ¬ midFrame s → s.cfg.bitrate ≤ 0 ∨ s.cfg.modIndex ≤ 0 ∨ s.cfg.rxFreq = 0 ∨ s.cfg.txFreq = 0 → exec .reconfigure s = .fault .range)
    ∧ (s.mode ≠ .off → ¬ midFrame s → 0 < s.xtalHz → 0 < s.cfg.bitrate → 0 < s.cfg.modIndex → 0 < s.cfg.rxFreq → 0 < s.cfg.txFreq →
      planClocks Config.actual s.xtalHz s.cfg.bitrate s.cfg.modIndex = none → s.planRx = none → exec .reconfigure s = .fault .noPlan)

/-- R372: the BOOT expansion: POWER_ON, then RECONFIGURE, with positive settings that plan, leaves the block receiving with sync detection armed and both directions planned. That the expansion passes XTAL_DEFAULT as a u32 operand is the model's choice (log entry 19). -/
def Obligations.BootReachesReceiving : Prop :=
  (∀ s : State, expand Config.actual s .boot = [.powerOn (BitVec.ofNat 32 Config.actual.xtalDefault), .reconfigure])
    ∧ ∀ (xtal : Word) (s : State), xtal ≠ 0#32 → ¬ midFrame s → 0 < s.cfg.bitrate → 0 < s.cfg.modIndex → 0 < s.cfg.rxFreq → 0 < s.cfg.txFreq →
      planClocks Config.actual xtal.toNat s.cfg.bitrate s.cfg.modIndex ≠ none →
      ∃ t, execAll [.powerOn xtal, .reconfigure] s = .next t ∧ t.mode = .receiving ∧ t.syncArmed = true ∧ t.ce = true ∧ t.trsw = false
        ∧ t.planRx ≠ none ∧ t.planTx ≠ none ∧ t.paWarm = false ∧ t.cfg = s.cfg ∧ t.buf = s.buf ∧ t.reply = some ⟨.ok, none⟩

/-- R383, R276: mode transitions fault mid-frame; POWER_OFF and SOFT_RESET are the exceptions and abandon the frame. -/
def Obligations.ModeChangesFaultMidFrame : Prop :=
  ∀ s : State, midFrame s →
    (∀ xtal : Word, xtal ≠ 0#32 → exec (.powerOn xtal) s = .fault .modeMidFrame)
    ∧ (s.mode ≠ .off → s.planRx ≠ none → exec .setRxMode s = .fault .modeMidFrame)
    ∧ (s.mode ≠ .off → s.planTx ≠ none → exec .setTxMode s = .fault .modeMidFrame)
    ∧ (s.mode ≠ .off → exec .reconfigure s = .fault .modeMidFrame)
    ∧ (s.mode ≠ .off → ∃ t, exec .powerOff s = .next t ∧ ¬ midFrame t)
    ∧ ∃ t, exec .softReset s = .next t ∧ ¬ midFrame t

/-- R276: no command stops or touches a frame in progress but POWER_OFF and SOFT_RESET (and the power cycle); the byte-clock event alone carries it on. -/
def Obligations.NoCommandCancelsAFrame : Prop :=
  ∀ (i : Instr) (s t : State), Good Config.actual s → midFrame s → exec i s = .next t →
    i ≠ .powerOff → i ≠ .softReset → i ≠ .evPowerUpReset → (∀ b, i ≠ .evByteClock b) →
    t.rxState = s.rxState ∧ t.txState = s.txState ∧ frontBuf t = frontBuf s ∧ t.mode = s.mode ∧ t.byteclkEn = s.byteclkEn
      ∧ t.rxErr = s.rxErr ∧ t.ftype = s.ftype ∧ t.preIdx = s.preIdx

/-- R191: the transitions of the operating mode, and the resets (R60); no other exists. -/
def Obligations.ModeTransitionsAreTheListedOnes : Prop :=
  ∀ (i : Instr) (s t : State), Good Config.actual s → exec i s = .next t →
    t.mode = s.mode
    ∨ (t.mode = .off ∧ (i = .powerOff ∨ i = .softReset ∨ i = .evPowerUpReset))
    ∨ (t.mode = .idle ∧ (∃ xtal, i = .powerOn xtal) ∧ ¬ midFrame s)
    ∨ (t.mode = .receiving ∧ s.mode ≠ .off ∧ t.planRx ≠ none ∧ ¬ midFrame t
      ∧ ((i = .setRxMode ∧ ¬ midFrame s) ∨ (i = .reconfigure ∧ ¬ midFrame s) ∨ ∃ b, i = .evByteClock b ∧ s.txState = .body))
    ∨ (t.mode = .transmitting ∧ s.mode ≠ .off ∧ t.planTx ≠ none ∧ ¬ midFrame s ∧ (i = .setTxMode ∨ (i = .txStart ∧ s.mode = .receiving)))

/-- R386: in every step but the ones that take the chip out of service, SetTR(1) is followed at once by the write of the PLL register, and SetTR(0) comes right after such a write. -/
def Obligations.SwitchMovesAtThePllWrite : Prop :=
  ∀ (i : Instr) (s t : State), Good Config.actual s → exec i s = .next t →
    (∀ k, (newEvents s t)[k]? = some (.setTr true) → ∃ v, (newEvents s t)[k + 1]? = some (.busWrite v) ∧ addrOf v = Config.actual.regPll)
    ∧ ((∀ x, i ≠ .powerOn x) → i ≠ .powerOff → i ≠ .softReset →
      ∀ k, (newEvents s t)[k]? = some (.setTr false) → ∃ j v, k = j + 1 ∧ (newEvents s t)[j]? = some (.busWrite v) ∧ addrOf v = Config.actual.regPll)

/-- R106, R105: every command that does not fault returns exactly one status, from the commands the table lists; a result goes with OK alone, but for the false of a denied CS_CHECK; INVALID changes no state and records no event. -/
def Obligations.StatusesComeFromTheListedCommands : Prop :=
  [Status.ok, .denied, .planFail, .noFrame, .busy, .invalid, .txDropped].map statusCode = [0, 1, 2, 3, 4, 5, 6]
    ∧ ∀ (i : Instr) (s t : State), i.isEvent = false → exec i s = .next t → ∃ r, t.reply = some r
      ∧ (r.status = .denied → i = .csCheck ∨ i = .txStart)
      ∧ (r.status = .planFail → (∃ x q h, i = .planClocks x q h) ∨ (∃ q h f b, i = .configureRx q h f b) ∨ (∃ q h f, i = .configureTx q h f) ∨ i = .reconfigure)
      ∧ (r.status = .noFrame → i = .txStart ∨ i = .rxDrainBegin ∨ i = .rxDrainEnd)
      ∧ (r.status = .busy → i = .txStart ∨ i = .rxDrainBegin)
      ∧ (r.status = .txDropped → i = .txStart)
      ∧ (r.status = .invalid → (i.wellFormed = false ∨ (∃ id, i = .configGet id) ∨ ∃ id v, i = .configSet id v) ∧ t = { s with reply := some ⟨.invalid, none⟩ })
      ∧ (r.result ≠ none → r.status = .ok ∨ (i = .csCheck ∧ r = ⟨.denied, some (.bool false)⟩))

/-! ### Frame engine -/

/-- R243, R272, R242: classification by the nearer marker, a tie giving LONG; the TX type by the length alone. -/
def Obligations.FrameTypesByMarkerAndLength : Prop :=
  (∀ b : Byte, hd b 0xA6#8 + hd b 0x59#8 = 8 ∧ (classify b = .short ↔ hd b 0xA6#8 ≤ 3))
    ∧ (List.range 256).countP (fun n => decide (classify (BitVec.ofNat 8 n) = .short)) = 93
    ∧ (List.range 256).countP (fun n => decide (hd (BitVec.ofNat 8 n) 0xA6#8 = hd (BitVec.ofNat 8 n) 0x59#8)) = 70
    ∧ markerOf .short = 0xA6#8 ∧ markerOf .long = 0x59#8
    ∧ ∀ (c : Config) (n : Nat),
      (n = c.frameLen .short → txType c n = some .short)
      ∧ (n ≠ c.frameLen .short → n = c.frameLen .long → txType c n = some .long)
      ∧ (n ≠ c.frameLen .short → n ≠ c.frameLen .long → txType c n = none)

/-- R249, R250, R341: the sync edge while armed; an event whose enable is 0 is lost: no state changes and no event is recorded. -/
def Obligations.SyncEdgeIsTakenOrLost : Prop :=
  ∀ (s : State) (b : Byte),
    (s.syncArmed = true → exec .evSyncDetect s = .next { s with
      buf := s.buf.set s.front { frontBuf s with progress := 0, size := Config.actual.rxPrefixLen + 1 }
      syncArmed := false, byteclkEn := true, rxErr := 0, rxState := .armed, history := s.history ++ [.syncEdge] })
    ∧ (s.syncArmed = false → exec .evSyncDetect s = .next s)
    ∧ (s.byteclkEn = false → exec (.evByteClock b) s = .next s)

/-- R251, R252, R253: a prefix byte is compared and counted, the last one may reject the frame, and the byte after the prefix is the marker. -/
def Obligations.PrefixAndMarkerBytes : Prop :=
  ∀ (b : Byte) (s : State) (e : Nat), s.byteclkEn = true → s.txState = .idle → s.rxState = .armed ∨ s.rxState = .preamble →
    (frontBuf s).progress ≤ Config.actual.rxPrefixLen →
    e = s.rxErr + hd b ((callsignTail Config.actual).getD (frontBuf s).progress 0) →
    if (frontBuf s).progress = Config.actual.rxPrefixLen then
      exec (.evByteClock b) s = .next { s with
        buf := s.buf.set s.front { frontBuf s with size := Config.actual.frameLen (classify b), progress := 0 }
        ftype := classify b, rxState := .body, history := s.history ++ [.rxIn b] }
    else if (frontBuf s).progress + 1 = Config.actual.rxPrefixLen ∧ 2 * s.syncActive.tol < e then
      exec (.evByteClock b) s = .next { s with
        buf := s.buf.set s.front { frontBuf s with progress := 0, size := 0 }
        rxErr := 0, byteclkEn := false, rxState := .idle, syncArmed := true, history := s.history ++ [.rxIn b, .emit .rxRejected] }
    else
      exec (.evByteClock b) s = .next { s with
        buf := s.buf.set s.front { frontBuf s with progress := (frontBuf s).progress + 1 }
        rxErr := e, rxState := .preamble, history := s.history ++ [.rxIn b] }

/-- R254, R255: a body byte is stored at the progress index and nowhere else; the last one completes the frame with a swap, or drops it while the back buffer is ready. -/
def Obligations.BodyByteIsStoredAndCompletes : Prop :=
  ∀ (b : Byte) (s : State), s.byteclkEn = true → s.txState = .idle → s.rxState = .body → (frontBuf s).progress < (frontBuf s).size →
    (frontBuf s).size ≤ Config.actual.maxPayload → Memory.wf (frontBuf s).payload →
    ∃ m : Memory, (∀ j, Memory.read m j = if j = (frontBuf s).progress then some b else Memory.read (frontBuf s).payload j) ∧
      exec (.evByteClock b) s = .next
        (if (frontBuf s).progress + 1 < (frontBuf s).size then { s with
          buf := s.buf.set s.front { frontBuf s with payload := m, progress := (frontBuf s).progress + 1 }, history := s.history ++ [.rxIn b] }
        else if (backBuf s).ready = true then { s with
          buf := s.buf.set s.front { frontBuf s with payload := m, progress := 0, size := 0 }
          rxErr := 0, byteclkEn := false, rxState := .idle, syncArmed := true, history := s.history ++ [.rxIn b, .emit .rxOverrun] }
        else { s with
          buf := s.buf.set s.front { frontBuf s with payload := m, progress := (frontBuf s).progress + 1, flags := (frontBuf s).flags ||| 0x01#8 }
          front := 1 - s.front
          rxErr := 0, byteclkEn := false, rxState := .idle, syncArmed := true, history := s.history ++ [.rxIn b, .emit .rxComplete] })

/-- R256, R257, R258: one byte for each byte-clock event in TX: training symbols, the preamble, the body. -/
def Obligations.TransmitBytesInEachSubState : Prop :=
  ∀ (b : Byte) (s : State), s.byteclkEn = true →
    (s.txState = .training → 0 < (frontBuf s).trainingRemaining → exec (.evByteClock b) s = .next { s with
      buf := s.buf.set s.front { frontBuf s with trainingRemaining := (frontBuf s).trainingRemaining - 1 }
      txState := if (frontBuf s).trainingRemaining = 1 then .preamble else .training
      preIdx := if (frontBuf s).trainingRemaining = 1 then 0 else s.preIdx
      history := s.history ++ [.byteClock, .txOut Config.actual.trainingSymbol] })
    ∧ (s.txState = .preamble → s.preIdx ≤ Config.actual.callsign.length → exec (.evByteClock b) s = .next { s with
      preIdx := s.preIdx + 1, txState := if s.preIdx = Config.actual.callsign.length then .body else .preamble
      history := s.history ++ [.byteClock, .txOut ((Config.actual.callsign ++ [markerOf s.ftype]).getD s.preIdx 0)] })
    ∧ (∀ v, s.txState = .body → (frontBuf s).progress < (frontBuf s).size → (frontBuf s).size ≤ Config.actual.maxPayload →
      Memory.read (frontBuf s).payload (frontBuf s).progress = some v → exec (.evByteClock b) s = .next { s with
        buf := s.buf.set s.front { frontBuf s with progress := (frontBuf s).progress + 1 }, history := s.history ++ [.byteClock, .txOut v] })

/-- R259: the event after the last body byte returns the block to RX mode. -/
def Obligations.TransmitCompletionReturnsToReceiving : Prop :=
  ∀ (b : Byte) (s : State), s.byteclkEn = true → s.txState = .body → (frontBuf s).progress = (frontBuf s).size → Staged s.stageRx Config.actual.rxSeq →
    exec (.evByteClock b) s = .next { s with
      byteclkEn := false, txState := .idle, mode := .receiving, trsw := false, syncArmed := true
      history := s.history ++ [.byteClock] ++ rxSwitchEvents Config.actual s ++ [.emit .txComplete] }

/-- R119: the air byte stream of one TX frame: from a loaded frame, as many byte-clock events as the stream has bytes present exactly the training, the callsign, the marker and the body, in order. -/
def Obligations.TransmittedFrameIsTheAirStream : Prop :=
  ∀ (s : State) (f bytes : List Byte), s.byteclkEn = true → s.preIdx = 0 →
    (s.txState = .training ∧ 0 < (frontBuf s).trainingRemaining) ∨ (s.txState = .preamble ∧ (frontBuf s).trainingRemaining = 0) →
    (frontBuf s).progress = 0 → (frontBuf s).size = f.length → f.length ≤ Config.actual.maxPayload → Holds (frontBuf s).payload f →
    bytes.length = (airFrame Config.actual (frontBuf s).trainingRemaining s.ftype f).length →
    ∃ t, execAll (bytes.map .evByteClock) s = .next t
      ∧ t.history = s.history ++ (airFrame Config.actual (frontBuf s).trainingRemaining s.ftype f).flatMap (fun x => [.byteClock, .txOut x])
      ∧ airBytes t.history = airBytes s.history ++ airFrame Config.actual (frontBuf s).trainingRemaining s.ftype f
      ∧ t.txState = .body ∧ (frontBuf t).progress = (frontBuf t).size ∧ t.mode = s.mode

/-- R120, R251 to R255: after the sync edge, a prefix within tolerance, a marker and a body of its length are received whole: the body, and nothing else, stands in the buffer handed over. -/
def Obligations.ReceivedFrameReachesTheBackBuffer : Prop :=
  ∀ (s : State) (pre : List Byte) (m : Byte) (body : List Byte), s.byteclkEn = true → s.rxState = .armed → s.txState = .idle → s.rxErr = 0 →
    (frontBuf s).progress = 0 → Memory.wf (frontBuf s).payload → (backBuf s).ready = false →
    pre.length = Config.actual.rxPrefixLen → prefixErrors Config.actual 0 pre ≤ 2 * s.syncActive.tol →
    body.length = Config.actual.frameLen (classify m) →
    ∃ t, execAll ((pre ++ [m] ++ body).map .evByteClock) s = .next t
      ∧ t.history = s.history ++ (pre ++ [m] ++ body).map .rxIn ++ [.emit .rxComplete]
      ∧ t.front = 1 - s.front ∧ frontBuf t = backBuf s ∧ (backBuf t).ready = true ∧ (backBuf t).size = body.length ∧ Holds (backBuf t).payload body
      ∧ t.ftype = classify m ∧ t.rxState = .idle ∧ t.byteclkEn = false ∧ t.syncArmed = true

/-- R260, R82, R84: no handler writes the back buffer; while it is ready no swap happens and, resets apart, it changes through the drain commands alone, and then only in flags, rssi and freq. -/
def Obligations.ReadyBackBufferIsImmutable : Prop :=
  ∀ (i : Instr) (s t : State), exec i s = .next t →
    ((i = .evSyncDetect ∨ ∃ b, i = .evByteClock b) → t.buf[backIndex s] = s.buf[backIndex s])
    ∧ ((backBuf s).ready = true → i ≠ .softReset → i ≠ .evPowerUpReset →
      t.front = s.front
      ∧ (i ≠ .rxDrainBegin → i ≠ .rxDrainEnd → backBuf t = backBuf s)
      ∧ backBuf t = { backBuf s with rssi := (backBuf t).rssi, freq := (backBuf t).freq, flags := (backBuf t).flags })

/-- R265, R266, R118: the drain. The record is the back buffer's, with fresh readings (any values in Off, without a bus event); it is cleared only by RX_DRAIN_END. -/
def Obligations.DrainHandsTheFrameOver : Prop :=
  ∀ s : State,
    ((backBuf s).ready = true → s.drainPending = false → (backBuf s).size ≤ Config.actual.maxPayload → Written (backBuf s) (backBuf s).size →
      ∃ (r : RxRecord) (reads : List Event),
        exec .rxDrainBegin s = .next { s with
          buf := s.buf.set (backIndex s) { backBuf s with rssi := r.rssi, freq := r.freq }
          drainPending := true, drawCount := s.drawCount + 2, history := s.history ++ reads ++ [.hostPush r], reply := some ⟨.ok, some (.record r)⟩ }
        ∧ r.size = (backBuf s).size ∧ r.flags = (backBuf s).flags ∧ r.payload.length = (backBuf s).size ∧ Holds (backBuf s).payload r.payload
        ∧ (s.mode = .off → reads = [])
        ∧ (s.mode ≠ .off → ∃ w1 w2, reads = [.busRead Config.actual.selRssi w1, .busRead Config.actual.selAfc w2]
          ∧ r.rssi = rssiOf Config.actual w1 ∧ r.freq = Config.actual.convAfc w2))
    ∧ ((backBuf s).ready = false → exec .rxDrainBegin s = .next { s with reply := some ⟨.noFrame, none⟩ })
    ∧ ((backBuf s).ready = true → s.drainPending = true → exec .rxDrainBegin s = .next { s with reply := some ⟨.busy, none⟩ })
    ∧ (s.drainPending = true → exec .rxDrainEnd s = .next { s with
      buf := s.buf.set (backIndex s) { backBuf s with flags := (backBuf s).flags &&& 0xFE#8 }, drainPending := false, reply := some ⟨.ok, none⟩ })
    ∧ (s.drainPending = false → exec .rxDrainEnd s = .next { s with reply := some ⟨.noFrame, none⟩ })

/-- R270: CS_CHECK: above the threshold the counter is reloaded; at or below it a counter that is not 0 is decremented; both deny; else transmission is allowed. -/
def Obligations.CarrierSenseCheckRules : Prop :=
  ∀ s : State,
    (s.mode ≠ .off → ∀ w, w = Config.actual.draws.readback s.drawCount Config.actual.selRssi →
      exec .csCheck s = .next
        (if s.cfg.csThreshold < rssiOf Config.actual w then { s with
          quarantine := Config.actual.quarantineMax, drawCount := s.drawCount + 1
          history := s.history ++ [.busRead Config.actual.selRssi w, .emit .csDenied], reply := some ⟨.denied, some (.bool false)⟩ }
        else if 0 < s.quarantine then { s with
          quarantine := s.quarantine - 1, drawCount := s.drawCount + 1
          history := s.history ++ [.busRead Config.actual.selRssi w, .emit .csDenied], reply := some ⟨.denied, some (.bool false)⟩ }
        else { s with
          drawCount := s.drawCount + 1, history := s.history ++ [.busRead Config.actual.selRssi w], reply := some ⟨.ok, some (.bool true)⟩ }))
    ∧ (s.mode = .off → exec .csCheck s = .fault .busOff)

/-- R270: with the counter at q, exactly q further checks with low readings are denied, and the next one allows. -/
def Obligations.QuarantineLastsExactlyItsCount : Prop :=
  ∀ s : State, s.mode ≠ .off →
    (∀ k ≤ s.quarantine, rssiOf Config.actual (Config.actual.draws.readback (s.drawCount + k) Config.actual.selRssi) ≤ s.cfg.csThreshold) →
    (∀ k ≤ s.quarantine, ∃ t, execAll (List.replicate k .csCheck) s = .next t ∧ t.quarantine = s.quarantine - k
      ∧ (0 < k → t.reply = some ⟨.denied, some (.bool false)⟩))
    ∧ ∃ t, execAll (List.replicate (s.quarantine + 1) .csCheck) s = .next t ∧ t.quarantine = 0 ∧ t.reply = some ⟨.ok, some (.bool true)⟩

/-- R271, R272, R178, R335: TX_START between frames in Receiving, with a TX plan (then staged) or without, for whatever the chip and the host answer: denied, no frame, a frame that is too long, dropped, no plan; else the frame is loaded, the block switched to transmit and the byte clock enabled. The payload bytes stored are the host's, from index 0 on, and no other cell changes. -/
def Obligations.TxStartLoadsAndSwitches : Prop :=
  ∀ s : State, s.mode = .receiving → ¬ midFrame s → (s.planTx ≠ none → Staged s.stageTx (Config.actual.regPa :: Config.actual.txSeq)) → Memory.wf (frontBuf s).payload →
    ∀ w, w = Config.actual.draws.readback s.drawCount Config.actual.selRssi →
    if s.cfg.csThreshold < rssiOf Config.actual w then
      exec .txStart s = .next { s with
        quarantine := Config.actual.quarantineMax, drawCount := s.drawCount + 1
        history := s.history ++ [.busRead Config.actual.selRssi w, .emit .csDenied], reply := some ⟨.denied, none⟩ }
    else if 0 < s.quarantine then
      exec .txStart s = .next { s with
        quarantine := s.quarantine - 1, drawCount := s.drawCount + 1
        history := s.history ++ [.busRead Config.actual.selRssi w, .emit .csDenied], reply := some ⟨.denied, none⟩ }
    else
      match Config.actual.draws.hostPull (s.drawCount + 1) with
      | none =>
        exec .txStart s = .next { s with
          drawCount := s.drawCount + 2, history := s.history ++ [.busRead Config.actual.selRssi w, .hostPull none], reply := some ⟨.noFrame, none⟩ }
      | some f =>
        if Config.actual.maxPayload < f.length then exec .txStart s = .fault .range
        else
          match txType Config.actual f.length with
          | none =>
            exec .txStart s = .next { s with
              drawCount := s.drawCount + 2, reply := some ⟨.txDropped, none⟩
              history := s.history ++ [.busRead Config.actual.selRssi w, .hostPull (some f), .emit .txDropped] }
          | some ft =>
            if s.planTx = none then exec .txStart s = .fault .noPlan
            else
              ∃ m : Memory, (∀ j, Memory.read m j = if j < f.length then f[j]? else Memory.read (frontBuf s).payload j) ∧
                exec .txStart s = .next { s with
                  mode := .transmitting, syncArmed := false, paWarm := true, trsw := true, ftype := ft, preIdx := 0, byteclkEn := true
                  txState := if 0 < s.cfg.trainingBytes then .training else .preamble
                  buf := s.buf.set s.front { frontBuf s with
                    size := f.length, progress := 0, flags := 0x00#8, trainingRemaining := s.cfg.trainingBytes, payload := m }
                  drawCount := s.drawCount + 2, reply := some ⟨.ok, none⟩
                  history := s.history ++ [.busRead Config.actual.selRssi w, .hostPull (some f)] ++ txSwitchEvents Config.actual s }

/-- R271, R335: TX_START in Off faults; outside Receiving or mid-frame it answers BUSY before it asks anything. -/
def Obligations.TxStartTurnedAwayEarly : Prop :=
  ∀ s : State,
    (s.mode = .off → exec .txStart s = .fault .busOff)
    ∧ (s.mode ≠ .off → s.mode ≠ .receiving ∨ midFrame s → exec .txStart s = .next { s with reply := some ⟨.busy, none⟩ })

/-- R381, R246: a byte-clock handler reads no register, and from a good state writes registers only where it completes a transmission, when no frame is left in progress (both sub-states idle); the sync-detect handler uses no bus. -/
def Obligations.HandlersUseTheBusOnlyBetweenFrames : Prop :=
  ∀ (s t : State) (b : Byte),
    (exec (.evByteClock b) s = .next t →
      (∀ sel v, Event.busRead sel v ∉ newEvents s t)
      ∧ (Good Config.actual s → ∀ v, Event.busWrite v ∈ newEvents s t →
        s.txState = .body ∧ (frontBuf s).progress = (frontBuf s).size ∧ ¬ midFrame t ∧ t.mode = .receiving))
    ∧ (exec .evSyncDetect s = .next t → ∀ e ∈ newEvents s t, e = .syncEdge)

/-! ### Invariants -/

/-- R50 with what goes with it: from every good state, whether a run reaches it or not, a step gives a good state. `Good` also holds the canonical form of the payload memories, the model's own representation (log entry 13). -/
def Obligations.EveryStepKeepsTheInvariants : Prop :=
  ∀ s t : State, Good Config.actual s → step s = .next t → Good Config.actual t

/-- R50, R60: the reset state is good, its outputs are as its mode says, and its payloads are in canonical form (the model's own representation, log entry 13). -/
def Obligations.ResetMeetsTheInvariants : Prop :=
  Good Config.actual State.reset ∧ OutputsFollowMode State.reset ∧ PayloadsCanonical State.reset

/-- R30, R171, R172, R178, R179: a step from a good state whose outputs follow its mode gives one whose outputs do. -/
def Obligations.EveryStepKeepsTheOutputs : Prop :=
  ∀ s t : State, Good Config.actual s → OutputsFollowMode s → step s = .next t → OutputsFollowMode t

/-- Every step keeps the payload memories in canonical form. R37 and R61 give the cells; that a memory lists its written cells with addresses strictly rising is the model's own representation (log entry 13). -/
def Obligations.EveryStepKeepsPayloadsCanonical : Prop :=
  ∀ s t : State, PayloadsCanonical s → step s = .next t → PayloadsCanonical t

/-- R61, R77, R259, R344: from a good state an interrupt event always completes, and no step stops on a cell nobody wrote or where the spec has no rule (the fault `noRule` is the model's own, log entry 11). -/
def Obligations.GoodStatesStayWithinTheRules : Prop :=
  ∀ s : State, Good Config.actual s →
    (∀ b, ∃ t, exec (.evByteClock b) s = .next t) ∧ (∃ t, exec .evSyncDetect s = .next t)
    ∧ (s.faults = [] → WithinRules s)
end

