-- ==== Sys2Proof/Laws/Decode.lean ====
section
/-! SUPPORT. Each operand reader takes back what its writer wrote, whatever bytes follow (R102, R104), and what it takes is what the writer writes. -/

namespace Sys2Proof

/-- Two bytes side by side are the word they were cut from. -/
theorem append_cut16 (v : BitVec 16) : v.extractLsb' 8 8 ++ v.extractLsb' 0 8 = v := by
  have h := BitVec.extractLsb'_append_extractLsb'_eq_extractLsb' (x := v) (start₁ := 0) (len₁ := 8) (start₂ := 8) (len₂ := 8) rfl
  rw [h]; exact BitVec.extractLsb'_eq_self

/-- Four bytes side by side are the word they were cut from. -/
theorem append_cut32 (v : Word) : v.extractLsb' 24 8 ++ v.extractLsb' 16 8 ++ v.extractLsb' 8 8 ++ v.extractLsb' 0 8 = v := by
  rw [BitVec.extractLsb'_append_extractLsb'_eq_extractLsb' (x := v) (start₁ := 16) (len₁ := 8) (start₂ := 24) (len₂ := 8) rfl,
    BitVec.extractLsb'_append_extractLsb'_eq_extractLsb' (x := v) (start₁ := 8) (len₁ := 8) (start₂ := 16) (len₂ := 16) rfl,
    BitVec.extractLsb'_append_extractLsb'_eq_extractLsb' (x := v) (start₁ := 0) (len₁ := 8) (start₂ := 8) (len₂ := 24) rfl]
  exact BitVec.extractLsb'_eq_self

theorem readU8_put (b : Byte) (r : List Byte) : readU8 (b :: r) = some (b, r) := rfl

theorem readU16_put (v : BitVec 16) (r : List Byte) : readU16 (putU16 v ++ r) = some (v, r) := by
  simp only [putU16, List.cons_append, List.nil_append, readU16, Option.some.injEq, Prod.mk.injEq, and_true]
  exact append_cut16 v

theorem readU32_put (v : Word) (r : List Byte) : readU32 (putU32 v ++ r) = some (v, r) := by
  simp only [putU32, List.cons_append, List.nil_append, readU32, Option.some.injEq, Prod.mk.injEq, and_true]
  exact append_cut32 v

theorem readSel_put (s : Selector) (r : List Byte) : readSel (putSel s ++ r) = some (s, r) := by
  simp [readSel, putSel]

theorem readRat_put (q : RatArg) (r : List Byte) : readRat (putRat q ++ r) = some (q, r) := by
  simp only [readRat, putRat, List.append_assoc, readU32_put]

theorem readBytes_put (l r : List Byte) (h : l.length < 65536) : readBytes (putBytes l ++ r) = some (l, r) := by
  have hn : (BitVec.ofNat 16 l.length).toNat = l.length := by simp; omega
  simp only [readBytes, putBytes, List.append_assoc, readU16_put, hn]
  simp

theorem readCval_put (id : Byte) (v : ConfigArg) (r : List Byte) (h : v.wellFormed id = true) : readCval id (putCval v ++ r) = some (v, r) := by
  cases v with
  | absent => simp only [ConfigArg.wellFormed, decide_eq_true_eq] at h; simp [readCval, putCval, h]
  | u8 b =>
    simp only [ConfigArg.wellFormed, decide_eq_true_eq] at h
    subst h
    rfl
  | u32 w =>
    simp only [ConfigArg.wellFormed, decide_eq_true_eq] at h
    obtain ⟨h0, h1, h2, h3, h4⟩ := h
    rw [readCval, if_neg (by bv_omega), if_neg (by tauto), if_neg h4, putCval, readU32_put]
    rfl
  | rat q =>
    simp only [ConfigArg.wellFormed, Bool.and_eq_true, decide_eq_true_eq] at h
    have h0 : ¬ 0x10#8 < id := by obtain ⟨rfl | rfl | rfl, -⟩ := h <;> decide
    rw [readCval, if_neg h0, if_pos h.1, putCval, readRat_put]
    rfl

end Sys2Proof
end

