-- ==== Sys2Proof/Laws/State.lean ====
section
/-! SUPPORT. One lemma per field of State for each named update: what the update makes of that field. Each is true by unfolding the one update, so that later proofs never unfold one. -/

namespace Sys2Proof.Machine

/-! ### answer -/

@[simp] theorem answer_mode (st : Status) (res : Option Result) (s : State) : (answer st res s).mode = s.mode := rfl
@[simp] theorem answer_xtalHz (st : Status) (res : Option Result) (s : State) : (answer st res s).xtalHz = s.xtalHz := rfl
@[simp] theorem answer_planRx (st : Status) (res : Option Result) (s : State) : (answer st res s).planRx = s.planRx := rfl
@[simp] theorem answer_planTx (st : Status) (res : Option Result) (s : State) : (answer st res s).planTx = s.planTx := rfl
@[simp] theorem answer_planErrorRx (st : Status) (res : Option Result) (s : State) : (answer st res s).planErrorRx = s.planErrorRx := rfl
@[simp] theorem answer_planErrorTx (st : Status) (res : Option Result) (s : State) : (answer st res s).planErrorTx = s.planErrorTx := rfl
@[simp] theorem answer_stageRx (st : Status) (res : Option Result) (s : State) : (answer st res s).stageRx = s.stageRx := rfl
@[simp] theorem answer_stageTx (st : Status) (res : Option Result) (s : State) : (answer st res s).stageTx = s.stageTx := rfl
@[simp] theorem answer_sys (st : Status) (res : Option Result) (s : State) : (answer st res s).sys = s.sys := rfl
@[simp] theorem answer_paWarm (st : Status) (res : Option Result) (s : State) : (answer st res s).paWarm = s.paWarm := rfl
@[simp] theorem answer_trsw (st : Status) (res : Option Result) (s : State) : (answer st res s).trsw = s.trsw := rfl
@[simp] theorem answer_ce (st : Status) (res : Option Result) (s : State) : (answer st res s).ce = s.ce := rfl
@[simp] theorem answer_afcOn (st : Status) (res : Option Result) (s : State) : (answer st res s).afcOn = s.afcOn := rfl
@[simp] theorem answer_afcActive (st : Status) (res : Option Result) (s : State) : (answer st res s).afcActive = s.afcActive := rfl
@[simp] theorem answer_syncActive (st : Status) (res : Option Result) (s : State) : (answer st res s).syncActive = s.syncActive := rfl
@[simp] theorem answer_cfg (st : Status) (res : Option Result) (s : State) : (answer st res s).cfg = s.cfg := rfl
@[simp] theorem answer_buf (st : Status) (res : Option Result) (s : State) : (answer st res s).buf = s.buf := rfl
@[simp] theorem answer_front (st : Status) (res : Option Result) (s : State) : (answer st res s).front = s.front := rfl
@[simp] theorem answer_rxState (st : Status) (res : Option Result) (s : State) : (answer st res s).rxState = s.rxState := rfl
@[simp] theorem answer_txState (st : Status) (res : Option Result) (s : State) : (answer st res s).txState = s.txState := rfl
@[simp] theorem answer_rxErr (st : Status) (res : Option Result) (s : State) : (answer st res s).rxErr = s.rxErr := rfl
@[simp] theorem answer_ftype (st : Status) (res : Option Result) (s : State) : (answer st res s).ftype = s.ftype := rfl
@[simp] theorem answer_preIdx (st : Status) (res : Option Result) (s : State) : (answer st res s).preIdx = s.preIdx := rfl
@[simp] theorem answer_syncArmed (st : Status) (res : Option Result) (s : State) : (answer st res s).syncArmed = s.syncArmed := rfl
@[simp] theorem answer_byteclkEn (st : Status) (res : Option Result) (s : State) : (answer st res s).byteclkEn = s.byteclkEn := rfl
@[simp] theorem answer_quarantine (st : Status) (res : Option Result) (s : State) : (answer st res s).quarantine = s.quarantine := rfl
@[simp] theorem answer_drainPending (st : Status) (res : Option Result) (s : State) : (answer st res s).drainPending = s.drainPending := rfl
@[simp] theorem answer_serial (st : Status) (res : Option Result) (s : State) : (answer st res s).serial = s.serial := rfl
@[simp] theorem answer_faults (st : Status) (res : Option Result) (s : State) : (answer st res s).faults = s.faults := rfl
@[simp] theorem answer_refused (st : Status) (res : Option Result) (s : State) : (answer st res s).refused = s.refused := rfl
@[simp] theorem answer_history (st : Status) (res : Option Result) (s : State) : (answer st res s).history = s.history := rfl
@[simp] theorem answer_inputs (st : Status) (res : Option Result) (s : State) : (answer st res s).inputs = s.inputs := rfl
@[simp] theorem answer_drawCount (st : Status) (res : Option Result) (s : State) : (answer st res s).drawCount = s.drawCount := rfl
@[simp] theorem answer_reply (st : Status) (res : Option Result) (s : State) : (answer st res s).reply = some ⟨st, res⟩ := rfl

/-! ### record -/

@[simp] theorem record_mode (e : Event) (s : State) : (record e s).mode = s.mode := rfl
@[simp] theorem record_xtalHz (e : Event) (s : State) : (record e s).xtalHz = s.xtalHz := rfl
@[simp] theorem record_planRx (e : Event) (s : State) : (record e s).planRx = s.planRx := rfl
@[simp] theorem record_planTx (e : Event) (s : State) : (record e s).planTx = s.planTx := rfl
@[simp] theorem record_planErrorRx (e : Event) (s : State) : (record e s).planErrorRx = s.planErrorRx := rfl
@[simp] theorem record_planErrorTx (e : Event) (s : State) : (record e s).planErrorTx = s.planErrorTx := rfl
@[simp] theorem record_stageRx (e : Event) (s : State) : (record e s).stageRx = s.stageRx := rfl
@[simp] theorem record_stageTx (e : Event) (s : State) : (record e s).stageTx = s.stageTx := rfl
@[simp] theorem record_sys (e : Event) (s : State) : (record e s).sys = s.sys := rfl
@[simp] theorem record_paWarm (e : Event) (s : State) : (record e s).paWarm = s.paWarm := rfl
@[simp] theorem record_trsw (e : Event) (s : State) : (record e s).trsw = s.trsw := rfl
@[simp] theorem record_ce (e : Event) (s : State) : (record e s).ce = s.ce := rfl
@[simp] theorem record_afcOn (e : Event) (s : State) : (record e s).afcOn = s.afcOn := rfl
@[simp] theorem record_afcActive (e : Event) (s : State) : (record e s).afcActive = s.afcActive := rfl
@[simp] theorem record_syncActive (e : Event) (s : State) : (record e s).syncActive = s.syncActive := rfl
@[simp] theorem record_cfg (e : Event) (s : State) : (record e s).cfg = s.cfg := rfl
@[simp] theorem record_buf (e : Event) (s : State) : (record e s).buf = s.buf := rfl
@[simp] theorem record_front (e : Event) (s : State) : (record e s).front = s.front := rfl
@[simp] theorem record_rxState (e : Event) (s : State) : (record e s).rxState = s.rxState := rfl
@[simp] theorem record_txState (e : Event) (s : State) : (record e s).txState = s.txState := rfl
@[simp] theorem record_rxErr (e : Event) (s : State) : (record e s).rxErr = s.rxErr := rfl
@[simp] theorem record_ftype (e : Event) (s : State) : (record e s).ftype = s.ftype := rfl
@[simp] theorem record_preIdx (e : Event) (s : State) : (record e s).preIdx = s.preIdx := rfl
@[simp] theorem record_syncArmed (e : Event) (s : State) : (record e s).syncArmed = s.syncArmed := rfl
@[simp] theorem record_byteclkEn (e : Event) (s : State) : (record e s).byteclkEn = s.byteclkEn := rfl
@[simp] theorem record_quarantine (e : Event) (s : State) : (record e s).quarantine = s.quarantine := rfl
@[simp] theorem record_drainPending (e : Event) (s : State) : (record e s).drainPending = s.drainPending := rfl
@[simp] theorem record_serial (e : Event) (s : State) : (record e s).serial = s.serial := rfl
@[simp] theorem record_faults (e : Event) (s : State) : (record e s).faults = s.faults := rfl
@[simp] theorem record_refused (e : Event) (s : State) : (record e s).refused = s.refused := rfl
@[simp] theorem record_history (e : Event) (s : State) : (record e s).history = s.history ++ [e] := rfl
@[simp] theorem record_inputs (e : Event) (s : State) : (record e s).inputs = s.inputs := rfl
@[simp] theorem record_drawCount (e : Event) (s : State) : (record e s).drawCount = s.drawCount := rfl
@[simp] theorem record_reply (e : Event) (s : State) : (record e s).reply = s.reply := rfl

/-! ### emit -/

@[simp] theorem emit_mode (n : Notice) (s : State) : (emit n s).mode = s.mode := rfl
@[simp] theorem emit_xtalHz (n : Notice) (s : State) : (emit n s).xtalHz = s.xtalHz := rfl
@[simp] theorem emit_planRx (n : Notice) (s : State) : (emit n s).planRx = s.planRx := rfl
@[simp] theorem emit_planTx (n : Notice) (s : State) : (emit n s).planTx = s.planTx := rfl
@[simp] theorem emit_planErrorRx (n : Notice) (s : State) : (emit n s).planErrorRx = s.planErrorRx := rfl
@[simp] theorem emit_planErrorTx (n : Notice) (s : State) : (emit n s).planErrorTx = s.planErrorTx := rfl
@[simp] theorem emit_stageRx (n : Notice) (s : State) : (emit n s).stageRx = s.stageRx := rfl
@[simp] theorem emit_stageTx (n : Notice) (s : State) : (emit n s).stageTx = s.stageTx := rfl
@[simp] theorem emit_sys (n : Notice) (s : State) : (emit n s).sys = s.sys := rfl
@[simp] theorem emit_paWarm (n : Notice) (s : State) : (emit n s).paWarm = s.paWarm := rfl
@[simp] theorem emit_trsw (n : Notice) (s : State) : (emit n s).trsw = s.trsw := rfl
@[simp] theorem emit_ce (n : Notice) (s : State) : (emit n s).ce = s.ce := rfl
@[simp] theorem emit_afcOn (n : Notice) (s : State) : (emit n s).afcOn = s.afcOn := rfl
@[simp] theorem emit_afcActive (n : Notice) (s : State) : (emit n s).afcActive = s.afcActive := rfl
@[simp] theorem emit_syncActive (n : Notice) (s : State) : (emit n s).syncActive = s.syncActive := rfl
@[simp] theorem emit_cfg (n : Notice) (s : State) : (emit n s).cfg = s.cfg := rfl
@[simp] theorem emit_buf (n : Notice) (s : State) : (emit n s).buf = s.buf := rfl
@[simp] theorem emit_front (n : Notice) (s : State) : (emit n s).front = s.front := rfl
@[simp] theorem emit_rxState (n : Notice) (s : State) : (emit n s).rxState = s.rxState := rfl
@[simp] theorem emit_txState (n : Notice) (s : State) : (emit n s).txState = s.txState := rfl
@[simp] theorem emit_rxErr (n : Notice) (s : State) : (emit n s).rxErr = s.rxErr := rfl
@[simp] theorem emit_ftype (n : Notice) (s : State) : (emit n s).ftype = s.ftype := rfl
@[simp] theorem emit_preIdx (n : Notice) (s : State) : (emit n s).preIdx = s.preIdx := rfl
@[simp] theorem emit_syncArmed (n : Notice) (s : State) : (emit n s).syncArmed = s.syncArmed := rfl
@[simp] theorem emit_byteclkEn (n : Notice) (s : State) : (emit n s).byteclkEn = s.byteclkEn := rfl
@[simp] theorem emit_quarantine (n : Notice) (s : State) : (emit n s).quarantine = s.quarantine := rfl
@[simp] theorem emit_drainPending (n : Notice) (s : State) : (emit n s).drainPending = s.drainPending := rfl
@[simp] theorem emit_serial (n : Notice) (s : State) : (emit n s).serial = s.serial := rfl
@[simp] theorem emit_faults (n : Notice) (s : State) : (emit n s).faults = s.faults := rfl
@[simp] theorem emit_refused (n : Notice) (s : State) : (emit n s).refused = s.refused := rfl
@[simp] theorem emit_history (n : Notice) (s : State) : (emit n s).history = s.history ++ [.emit n] := rfl
@[simp] theorem emit_inputs (n : Notice) (s : State) : (emit n s).inputs = s.inputs := rfl
@[simp] theorem emit_drawCount (n : Notice) (s : State) : (emit n s).drawCount = s.drawCount := rfl
@[simp] theorem emit_reply (n : Notice) (s : State) : (emit n s).reply = s.reply := rfl

/-! ### busWrite -/

@[simp] theorem busWrite_mode (v : Word) (s : State) : (busWrite v s).mode = s.mode := rfl
@[simp] theorem busWrite_xtalHz (v : Word) (s : State) : (busWrite v s).xtalHz = s.xtalHz := rfl
@[simp] theorem busWrite_planRx (v : Word) (s : State) : (busWrite v s).planRx = s.planRx := rfl
@[simp] theorem busWrite_planTx (v : Word) (s : State) : (busWrite v s).planTx = s.planTx := rfl
@[simp] theorem busWrite_planErrorRx (v : Word) (s : State) : (busWrite v s).planErrorRx = s.planErrorRx := rfl
@[simp] theorem busWrite_planErrorTx (v : Word) (s : State) : (busWrite v s).planErrorTx = s.planErrorTx := rfl
@[simp] theorem busWrite_stageRx (v : Word) (s : State) : (busWrite v s).stageRx = s.stageRx := rfl
@[simp] theorem busWrite_stageTx (v : Word) (s : State) : (busWrite v s).stageTx = s.stageTx := rfl
@[simp] theorem busWrite_sys (v : Word) (s : State) : (busWrite v s).sys = s.sys := rfl
@[simp] theorem busWrite_paWarm (v : Word) (s : State) : (busWrite v s).paWarm = s.paWarm := rfl
@[simp] theorem busWrite_trsw (v : Word) (s : State) : (busWrite v s).trsw = s.trsw := rfl
@[simp] theorem busWrite_ce (v : Word) (s : State) : (busWrite v s).ce = s.ce := rfl
@[simp] theorem busWrite_afcOn (v : Word) (s : State) : (busWrite v s).afcOn = s.afcOn := rfl
@[simp] theorem busWrite_afcActive (v : Word) (s : State) : (busWrite v s).afcActive = s.afcActive := rfl
@[simp] theorem busWrite_syncActive (v : Word) (s : State) : (busWrite v s).syncActive = s.syncActive := rfl
@[simp] theorem busWrite_cfg (v : Word) (s : State) : (busWrite v s).cfg = s.cfg := rfl
@[simp] theorem busWrite_buf (v : Word) (s : State) : (busWrite v s).buf = s.buf := rfl
@[simp] theorem busWrite_front (v : Word) (s : State) : (busWrite v s).front = s.front := rfl
@[simp] theorem busWrite_rxState (v : Word) (s : State) : (busWrite v s).rxState = s.rxState := rfl
@[simp] theorem busWrite_txState (v : Word) (s : State) : (busWrite v s).txState = s.txState := rfl
@[simp] theorem busWrite_rxErr (v : Word) (s : State) : (busWrite v s).rxErr = s.rxErr := rfl
@[simp] theorem busWrite_ftype (v : Word) (s : State) : (busWrite v s).ftype = s.ftype := rfl
@[simp] theorem busWrite_preIdx (v : Word) (s : State) : (busWrite v s).preIdx = s.preIdx := rfl
@[simp] theorem busWrite_syncArmed (v : Word) (s : State) : (busWrite v s).syncArmed = s.syncArmed := rfl
@[simp] theorem busWrite_byteclkEn (v : Word) (s : State) : (busWrite v s).byteclkEn = s.byteclkEn := rfl
@[simp] theorem busWrite_quarantine (v : Word) (s : State) : (busWrite v s).quarantine = s.quarantine := rfl
@[simp] theorem busWrite_drainPending (v : Word) (s : State) : (busWrite v s).drainPending = s.drainPending := rfl
@[simp] theorem busWrite_serial (v : Word) (s : State) : (busWrite v s).serial = s.serial := rfl
@[simp] theorem busWrite_faults (v : Word) (s : State) : (busWrite v s).faults = s.faults := rfl
@[simp] theorem busWrite_refused (v : Word) (s : State) : (busWrite v s).refused = s.refused := rfl
@[simp] theorem busWrite_history (v : Word) (s : State) : (busWrite v s).history = s.history ++ [.busWrite v] := rfl
@[simp] theorem busWrite_inputs (v : Word) (s : State) : (busWrite v s).inputs = s.inputs := rfl
@[simp] theorem busWrite_drawCount (v : Word) (s : State) : (busWrite v s).drawCount = s.drawCount := rfl
@[simp] theorem busWrite_reply (v : Word) (s : State) : (busWrite v s).reply = s.reply := rfl

/-! ### txOut -/

@[simp] theorem txOut_mode (b : Byte) (s : State) : (txOut b s).mode = s.mode := rfl
@[simp] theorem txOut_xtalHz (b : Byte) (s : State) : (txOut b s).xtalHz = s.xtalHz := rfl
@[simp] theorem txOut_planRx (b : Byte) (s : State) : (txOut b s).planRx = s.planRx := rfl
@[simp] theorem txOut_planTx (b : Byte) (s : State) : (txOut b s).planTx = s.planTx := rfl
@[simp] theorem txOut_planErrorRx (b : Byte) (s : State) : (txOut b s).planErrorRx = s.planErrorRx := rfl
@[simp] theorem txOut_planErrorTx (b : Byte) (s : State) : (txOut b s).planErrorTx = s.planErrorTx := rfl
@[simp] theorem txOut_stageRx (b : Byte) (s : State) : (txOut b s).stageRx = s.stageRx := rfl
@[simp] theorem txOut_stageTx (b : Byte) (s : State) : (txOut b s).stageTx = s.stageTx := rfl
@[simp] theorem txOut_sys (b : Byte) (s : State) : (txOut b s).sys = s.sys := rfl
@[simp] theorem txOut_paWarm (b : Byte) (s : State) : (txOut b s).paWarm = s.paWarm := rfl
@[simp] theorem txOut_trsw (b : Byte) (s : State) : (txOut b s).trsw = s.trsw := rfl
@[simp] theorem txOut_ce (b : Byte) (s : State) : (txOut b s).ce = s.ce := rfl
@[simp] theorem txOut_afcOn (b : Byte) (s : State) : (txOut b s).afcOn = s.afcOn := rfl
@[simp] theorem txOut_afcActive (b : Byte) (s : State) : (txOut b s).afcActive = s.afcActive := rfl
@[simp] theorem txOut_syncActive (b : Byte) (s : State) : (txOut b s).syncActive = s.syncActive := rfl
@[simp] theorem txOut_cfg (b : Byte) (s : State) : (txOut b s).cfg = s.cfg := rfl
@[simp] theorem txOut_buf (b : Byte) (s : State) : (txOut b s).buf = s.buf := rfl
@[simp] theorem txOut_front (b : Byte) (s : State) : (txOut b s).front = s.front := rfl
@[simp] theorem txOut_rxState (b : Byte) (s : State) : (txOut b s).rxState = s.rxState := rfl
@[simp] theorem txOut_txState (b : Byte) (s : State) : (txOut b s).txState = s.txState := rfl
@[simp] theorem txOut_rxErr (b : Byte) (s : State) : (txOut b s).rxErr = s.rxErr := rfl
@[simp] theorem txOut_ftype (b : Byte) (s : State) : (txOut b s).ftype = s.ftype := rfl
@[simp] theorem txOut_preIdx (b : Byte) (s : State) : (txOut b s).preIdx = s.preIdx := rfl
@[simp] theorem txOut_syncArmed (b : Byte) (s : State) : (txOut b s).syncArmed = s.syncArmed := rfl
@[simp] theorem txOut_byteclkEn (b : Byte) (s : State) : (txOut b s).byteclkEn = s.byteclkEn := rfl
@[simp] theorem txOut_quarantine (b : Byte) (s : State) : (txOut b s).quarantine = s.quarantine := rfl
@[simp] theorem txOut_drainPending (b : Byte) (s : State) : (txOut b s).drainPending = s.drainPending := rfl
@[simp] theorem txOut_serial (b : Byte) (s : State) : (txOut b s).serial = s.serial := rfl
@[simp] theorem txOut_faults (b : Byte) (s : State) : (txOut b s).faults = s.faults := rfl
@[simp] theorem txOut_refused (b : Byte) (s : State) : (txOut b s).refused = s.refused := rfl
@[simp] theorem txOut_history (b : Byte) (s : State) : (txOut b s).history = s.history ++ [.txOut b] := rfl
@[simp] theorem txOut_inputs (b : Byte) (s : State) : (txOut b s).inputs = s.inputs := rfl
@[simp] theorem txOut_drawCount (b : Byte) (s : State) : (txOut b s).drawCount = s.drawCount := rfl
@[simp] theorem txOut_reply (b : Byte) (s : State) : (txOut b s).reply = s.reply := rfl

/-! ### countDraw -/

@[simp] theorem countDraw_mode (s : State) : (countDraw s).mode = s.mode := rfl
@[simp] theorem countDraw_xtalHz (s : State) : (countDraw s).xtalHz = s.xtalHz := rfl
@[simp] theorem countDraw_planRx (s : State) : (countDraw s).planRx = s.planRx := rfl
@[simp] theorem countDraw_planTx (s : State) : (countDraw s).planTx = s.planTx := rfl
@[simp] theorem countDraw_planErrorRx (s : State) : (countDraw s).planErrorRx = s.planErrorRx := rfl
@[simp] theorem countDraw_planErrorTx (s : State) : (countDraw s).planErrorTx = s.planErrorTx := rfl
@[simp] theorem countDraw_stageRx (s : State) : (countDraw s).stageRx = s.stageRx := rfl
@[simp] theorem countDraw_stageTx (s : State) : (countDraw s).stageTx = s.stageTx := rfl
@[simp] theorem countDraw_sys (s : State) : (countDraw s).sys = s.sys := rfl
@[simp] theorem countDraw_paWarm (s : State) : (countDraw s).paWarm = s.paWarm := rfl
@[simp] theorem countDraw_trsw (s : State) : (countDraw s).trsw = s.trsw := rfl
@[simp] theorem countDraw_ce (s : State) : (countDraw s).ce = s.ce := rfl
@[simp] theorem countDraw_afcOn (s : State) : (countDraw s).afcOn = s.afcOn := rfl
@[simp] theorem countDraw_afcActive (s : State) : (countDraw s).afcActive = s.afcActive := rfl
@[simp] theorem countDraw_syncActive (s : State) : (countDraw s).syncActive = s.syncActive := rfl
@[simp] theorem countDraw_cfg (s : State) : (countDraw s).cfg = s.cfg := rfl
@[simp] theorem countDraw_buf (s : State) : (countDraw s).buf = s.buf := rfl
@[simp] theorem countDraw_front (s : State) : (countDraw s).front = s.front := rfl
@[simp] theorem countDraw_rxState (s : State) : (countDraw s).rxState = s.rxState := rfl
@[simp] theorem countDraw_txState (s : State) : (countDraw s).txState = s.txState := rfl
@[simp] theorem countDraw_rxErr (s : State) : (countDraw s).rxErr = s.rxErr := rfl
@[simp] theorem countDraw_ftype (s : State) : (countDraw s).ftype = s.ftype := rfl
@[simp] theorem countDraw_preIdx (s : State) : (countDraw s).preIdx = s.preIdx := rfl
@[simp] theorem countDraw_syncArmed (s : State) : (countDraw s).syncArmed = s.syncArmed := rfl
@[simp] theorem countDraw_byteclkEn (s : State) : (countDraw s).byteclkEn = s.byteclkEn := rfl
@[simp] theorem countDraw_quarantine (s : State) : (countDraw s).quarantine = s.quarantine := rfl
@[simp] theorem countDraw_drainPending (s : State) : (countDraw s).drainPending = s.drainPending := rfl
@[simp] theorem countDraw_serial (s : State) : (countDraw s).serial = s.serial := rfl
@[simp] theorem countDraw_faults (s : State) : (countDraw s).faults = s.faults := rfl
@[simp] theorem countDraw_refused (s : State) : (countDraw s).refused = s.refused := rfl
@[simp] theorem countDraw_history (s : State) : (countDraw s).history = s.history := rfl
@[simp] theorem countDraw_inputs (s : State) : (countDraw s).inputs = s.inputs := rfl
@[simp] theorem countDraw_drawCount (s : State) : (countDraw s).drawCount = s.drawCount + 1 := rfl
@[simp] theorem countDraw_reply (s : State) : (countDraw s).reply = s.reply := rfl

/-! ### driveTr -/

@[simp] theorem driveTr_mode (v : Bool) (s : State) : (driveTr v s).mode = s.mode := rfl
@[simp] theorem driveTr_xtalHz (v : Bool) (s : State) : (driveTr v s).xtalHz = s.xtalHz := rfl
@[simp] theorem driveTr_planRx (v : Bool) (s : State) : (driveTr v s).planRx = s.planRx := rfl
@[simp] theorem driveTr_planTx (v : Bool) (s : State) : (driveTr v s).planTx = s.planTx := rfl
@[simp] theorem driveTr_planErrorRx (v : Bool) (s : State) : (driveTr v s).planErrorRx = s.planErrorRx := rfl
@[simp] theorem driveTr_planErrorTx (v : Bool) (s : State) : (driveTr v s).planErrorTx = s.planErrorTx := rfl
@[simp] theorem driveTr_stageRx (v : Bool) (s : State) : (driveTr v s).stageRx = s.stageRx := rfl
@[simp] theorem driveTr_stageTx (v : Bool) (s : State) : (driveTr v s).stageTx = s.stageTx := rfl
@[simp] theorem driveTr_sys (v : Bool) (s : State) : (driveTr v s).sys = s.sys := rfl
@[simp] theorem driveTr_paWarm (v : Bool) (s : State) : (driveTr v s).paWarm = s.paWarm := rfl
@[simp] theorem driveTr_trsw (v : Bool) (s : State) : (driveTr v s).trsw = v := rfl
@[simp] theorem driveTr_ce (v : Bool) (s : State) : (driveTr v s).ce = s.ce := rfl
@[simp] theorem driveTr_afcOn (v : Bool) (s : State) : (driveTr v s).afcOn = s.afcOn := rfl
@[simp] theorem driveTr_afcActive (v : Bool) (s : State) : (driveTr v s).afcActive = s.afcActive := rfl
@[simp] theorem driveTr_syncActive (v : Bool) (s : State) : (driveTr v s).syncActive = s.syncActive := rfl
@[simp] theorem driveTr_cfg (v : Bool) (s : State) : (driveTr v s).cfg = s.cfg := rfl
@[simp] theorem driveTr_buf (v : Bool) (s : State) : (driveTr v s).buf = s.buf := rfl
@[simp] theorem driveTr_front (v : Bool) (s : State) : (driveTr v s).front = s.front := rfl
@[simp] theorem driveTr_rxState (v : Bool) (s : State) : (driveTr v s).rxState = s.rxState := rfl
@[simp] theorem driveTr_txState (v : Bool) (s : State) : (driveTr v s).txState = s.txState := rfl
@[simp] theorem driveTr_rxErr (v : Bool) (s : State) : (driveTr v s).rxErr = s.rxErr := rfl
@[simp] theorem driveTr_ftype (v : Bool) (s : State) : (driveTr v s).ftype = s.ftype := rfl
@[simp] theorem driveTr_preIdx (v : Bool) (s : State) : (driveTr v s).preIdx = s.preIdx := rfl
@[simp] theorem driveTr_syncArmed (v : Bool) (s : State) : (driveTr v s).syncArmed = s.syncArmed := rfl
@[simp] theorem driveTr_byteclkEn (v : Bool) (s : State) : (driveTr v s).byteclkEn = s.byteclkEn := rfl
@[simp] theorem driveTr_quarantine (v : Bool) (s : State) : (driveTr v s).quarantine = s.quarantine := rfl
@[simp] theorem driveTr_drainPending (v : Bool) (s : State) : (driveTr v s).drainPending = s.drainPending := rfl
@[simp] theorem driveTr_serial (v : Bool) (s : State) : (driveTr v s).serial = s.serial := rfl
@[simp] theorem driveTr_faults (v : Bool) (s : State) : (driveTr v s).faults = s.faults := rfl
@[simp] theorem driveTr_refused (v : Bool) (s : State) : (driveTr v s).refused = s.refused := rfl
@[simp] theorem driveTr_history (v : Bool) (s : State) : (driveTr v s).history = s.history ++ [.setTr v] := rfl
@[simp] theorem driveTr_inputs (v : Bool) (s : State) : (driveTr v s).inputs = s.inputs := rfl
@[simp] theorem driveTr_drawCount (v : Bool) (s : State) : (driveTr v s).drawCount = s.drawCount := rfl
@[simp] theorem driveTr_reply (v : Bool) (s : State) : (driveTr v s).reply = s.reply := rfl

/-! ### driveCe -/

@[simp] theorem driveCe_mode (v : Bool) (s : State) : (driveCe v s).mode = s.mode := rfl
@[simp] theorem driveCe_xtalHz (v : Bool) (s : State) : (driveCe v s).xtalHz = s.xtalHz := rfl
@[simp] theorem driveCe_planRx (v : Bool) (s : State) : (driveCe v s).planRx = s.planRx := rfl
@[simp] theorem driveCe_planTx (v : Bool) (s : State) : (driveCe v s).planTx = s.planTx := rfl
@[simp] theorem driveCe_planErrorRx (v : Bool) (s : State) : (driveCe v s).planErrorRx = s.planErrorRx := rfl
@[simp] theorem driveCe_planErrorTx (v : Bool) (s : State) : (driveCe v s).planErrorTx = s.planErrorTx := rfl
@[simp] theorem driveCe_stageRx (v : Bool) (s : State) : (driveCe v s).stageRx = s.stageRx := rfl
@[simp] theorem driveCe_stageTx (v : Bool) (s : State) : (driveCe v s).stageTx = s.stageTx := rfl
@[simp] theorem driveCe_sys (v : Bool) (s : State) : (driveCe v s).sys = s.sys := rfl
@[simp] theorem driveCe_paWarm (v : Bool) (s : State) : (driveCe v s).paWarm = s.paWarm := rfl
@[simp] theorem driveCe_trsw (v : Bool) (s : State) : (driveCe v s).trsw = s.trsw := rfl
@[simp] theorem driveCe_ce (v : Bool) (s : State) : (driveCe v s).ce = v := rfl
@[simp] theorem driveCe_afcOn (v : Bool) (s : State) : (driveCe v s).afcOn = s.afcOn := rfl
@[simp] theorem driveCe_afcActive (v : Bool) (s : State) : (driveCe v s).afcActive = s.afcActive := rfl
@[simp] theorem driveCe_syncActive (v : Bool) (s : State) : (driveCe v s).syncActive = s.syncActive := rfl
@[simp] theorem driveCe_cfg (v : Bool) (s : State) : (driveCe v s).cfg = s.cfg := rfl
@[simp] theorem driveCe_buf (v : Bool) (s : State) : (driveCe v s).buf = s.buf := rfl
@[simp] theorem driveCe_front (v : Bool) (s : State) : (driveCe v s).front = s.front := rfl
@[simp] theorem driveCe_rxState (v : Bool) (s : State) : (driveCe v s).rxState = s.rxState := rfl
@[simp] theorem driveCe_txState (v : Bool) (s : State) : (driveCe v s).txState = s.txState := rfl
@[simp] theorem driveCe_rxErr (v : Bool) (s : State) : (driveCe v s).rxErr = s.rxErr := rfl
@[simp] theorem driveCe_ftype (v : Bool) (s : State) : (driveCe v s).ftype = s.ftype := rfl
@[simp] theorem driveCe_preIdx (v : Bool) (s : State) : (driveCe v s).preIdx = s.preIdx := rfl
@[simp] theorem driveCe_syncArmed (v : Bool) (s : State) : (driveCe v s).syncArmed = s.syncArmed := rfl
@[simp] theorem driveCe_byteclkEn (v : Bool) (s : State) : (driveCe v s).byteclkEn = s.byteclkEn := rfl
@[simp] theorem driveCe_quarantine (v : Bool) (s : State) : (driveCe v s).quarantine = s.quarantine := rfl
@[simp] theorem driveCe_drainPending (v : Bool) (s : State) : (driveCe v s).drainPending = s.drainPending := rfl
@[simp] theorem driveCe_serial (v : Bool) (s : State) : (driveCe v s).serial = s.serial := rfl
@[simp] theorem driveCe_faults (v : Bool) (s : State) : (driveCe v s).faults = s.faults := rfl
@[simp] theorem driveCe_refused (v : Bool) (s : State) : (driveCe v s).refused = s.refused := rfl
@[simp] theorem driveCe_history (v : Bool) (s : State) : (driveCe v s).history = s.history ++ [.setCe v] := rfl
@[simp] theorem driveCe_inputs (v : Bool) (s : State) : (driveCe v s).inputs = s.inputs := rfl
@[simp] theorem driveCe_drawCount (v : Bool) (s : State) : (driveCe v s).drawCount = s.drawCount := rfl
@[simp] theorem driveCe_reply (v : Bool) (s : State) : (driveCe v s).reply = s.reply := rfl

/-! ### setFrontBuf -/

@[simp] theorem setFrontBuf_mode (b : FrameBuffer) (s : State) : (setFrontBuf b s).mode = s.mode := rfl
@[simp] theorem setFrontBuf_xtalHz (b : FrameBuffer) (s : State) : (setFrontBuf b s).xtalHz = s.xtalHz := rfl
@[simp] theorem setFrontBuf_planRx (b : FrameBuffer) (s : State) : (setFrontBuf b s).planRx = s.planRx := rfl
@[simp] theorem setFrontBuf_planTx (b : FrameBuffer) (s : State) : (setFrontBuf b s).planTx = s.planTx := rfl
@[simp] theorem setFrontBuf_planErrorRx (b : FrameBuffer) (s : State) : (setFrontBuf b s).planErrorRx = s.planErrorRx := rfl
@[simp] theorem setFrontBuf_planErrorTx (b : FrameBuffer) (s : State) : (setFrontBuf b s).planErrorTx = s.planErrorTx := rfl
@[simp] theorem setFrontBuf_stageRx (b : FrameBuffer) (s : State) : (setFrontBuf b s).stageRx = s.stageRx := rfl
@[simp] theorem setFrontBuf_stageTx (b : FrameBuffer) (s : State) : (setFrontBuf b s).stageTx = s.stageTx := rfl
@[simp] theorem setFrontBuf_sys (b : FrameBuffer) (s : State) : (setFrontBuf b s).sys = s.sys := rfl
@[simp] theorem setFrontBuf_paWarm (b : FrameBuffer) (s : State) : (setFrontBuf b s).paWarm = s.paWarm := rfl
@[simp] theorem setFrontBuf_trsw (b : FrameBuffer) (s : State) : (setFrontBuf b s).trsw = s.trsw := rfl
@[simp] theorem setFrontBuf_ce (b : FrameBuffer) (s : State) : (setFrontBuf b s).ce = s.ce := rfl
@[simp] theorem setFrontBuf_afcOn (b : FrameBuffer) (s : State) : (setFrontBuf b s).afcOn = s.afcOn := rfl
@[simp] theorem setFrontBuf_afcActive (b : FrameBuffer) (s : State) : (setFrontBuf b s).afcActive = s.afcActive := rfl
@[simp] theorem setFrontBuf_syncActive (b : FrameBuffer) (s : State) : (setFrontBuf b s).syncActive = s.syncActive := rfl
@[simp] theorem setFrontBuf_cfg (b : FrameBuffer) (s : State) : (setFrontBuf b s).cfg = s.cfg := rfl
@[simp] theorem setFrontBuf_buf (b : FrameBuffer) (s : State) : (setFrontBuf b s).buf = s.buf.set s.front b := rfl
@[simp] theorem setFrontBuf_front (b : FrameBuffer) (s : State) : (setFrontBuf b s).front = s.front := rfl
@[simp] theorem setFrontBuf_rxState (b : FrameBuffer) (s : State) : (setFrontBuf b s).rxState = s.rxState := rfl
@[simp] theorem setFrontBuf_txState (b : FrameBuffer) (s : State) : (setFrontBuf b s).txState = s.txState := rfl
@[simp] theorem setFrontBuf_rxErr (b : FrameBuffer) (s : State) : (setFrontBuf b s).rxErr = s.rxErr := rfl
@[simp] theorem setFrontBuf_ftype (b : FrameBuffer) (s : State) : (setFrontBuf b s).ftype = s.ftype := rfl
@[simp] theorem setFrontBuf_preIdx (b : FrameBuffer) (s : State) : (setFrontBuf b s).preIdx = s.preIdx := rfl
@[simp] theorem setFrontBuf_syncArmed (b : FrameBuffer) (s : State) : (setFrontBuf b s).syncArmed = s.syncArmed := rfl
@[simp] theorem setFrontBuf_byteclkEn (b : FrameBuffer) (s : State) : (setFrontBuf b s).byteclkEn = s.byteclkEn := rfl
@[simp] theorem setFrontBuf_quarantine (b : FrameBuffer) (s : State) : (setFrontBuf b s).quarantine = s.quarantine := rfl
@[simp] theorem setFrontBuf_drainPending (b : FrameBuffer) (s : State) : (setFrontBuf b s).drainPending = s.drainPending := rfl
@[simp] theorem setFrontBuf_serial (b : FrameBuffer) (s : State) : (setFrontBuf b s).serial = s.serial := rfl
@[simp] theorem setFrontBuf_faults (b : FrameBuffer) (s : State) : (setFrontBuf b s).faults = s.faults := rfl
@[simp] theorem setFrontBuf_refused (b : FrameBuffer) (s : State) : (setFrontBuf b s).refused = s.refused := rfl
@[simp] theorem setFrontBuf_history (b : FrameBuffer) (s : State) : (setFrontBuf b s).history = s.history := rfl
@[simp] theorem setFrontBuf_inputs (b : FrameBuffer) (s : State) : (setFrontBuf b s).inputs = s.inputs := rfl
@[simp] theorem setFrontBuf_drawCount (b : FrameBuffer) (s : State) : (setFrontBuf b s).drawCount = s.drawCount := rfl
@[simp] theorem setFrontBuf_reply (b : FrameBuffer) (s : State) : (setFrontBuf b s).reply = s.reply := rfl

/-! ### setBackBuf -/

@[simp] theorem setBackBuf_mode (b : FrameBuffer) (s : State) : (setBackBuf b s).mode = s.mode := rfl
@[simp] theorem setBackBuf_xtalHz (b : FrameBuffer) (s : State) : (setBackBuf b s).xtalHz = s.xtalHz := rfl
@[simp] theorem setBackBuf_planRx (b : FrameBuffer) (s : State) : (setBackBuf b s).planRx = s.planRx := rfl
@[simp] theorem setBackBuf_planTx (b : FrameBuffer) (s : State) : (setBackBuf b s).planTx = s.planTx := rfl
@[simp] theorem setBackBuf_planErrorRx (b : FrameBuffer) (s : State) : (setBackBuf b s).planErrorRx = s.planErrorRx := rfl
@[simp] theorem setBackBuf_planErrorTx (b : FrameBuffer) (s : State) : (setBackBuf b s).planErrorTx = s.planErrorTx := rfl
@[simp] theorem setBackBuf_stageRx (b : FrameBuffer) (s : State) : (setBackBuf b s).stageRx = s.stageRx := rfl
@[simp] theorem setBackBuf_stageTx (b : FrameBuffer) (s : State) : (setBackBuf b s).stageTx = s.stageTx := rfl
@[simp] theorem setBackBuf_sys (b : FrameBuffer) (s : State) : (setBackBuf b s).sys = s.sys := rfl
@[simp] theorem setBackBuf_paWarm (b : FrameBuffer) (s : State) : (setBackBuf b s).paWarm = s.paWarm := rfl
@[simp] theorem setBackBuf_trsw (b : FrameBuffer) (s : State) : (setBackBuf b s).trsw = s.trsw := rfl
@[simp] theorem setBackBuf_ce (b : FrameBuffer) (s : State) : (setBackBuf b s).ce = s.ce := rfl
@[simp] theorem setBackBuf_afcOn (b : FrameBuffer) (s : State) : (setBackBuf b s).afcOn = s.afcOn := rfl
@[simp] theorem setBackBuf_afcActive (b : FrameBuffer) (s : State) : (setBackBuf b s).afcActive = s.afcActive := rfl
@[simp] theorem setBackBuf_syncActive (b : FrameBuffer) (s : State) : (setBackBuf b s).syncActive = s.syncActive := rfl
@[simp] theorem setBackBuf_cfg (b : FrameBuffer) (s : State) : (setBackBuf b s).cfg = s.cfg := rfl
@[simp] theorem setBackBuf_buf (b : FrameBuffer) (s : State) : (setBackBuf b s).buf = s.buf.set (backIndex s) b := rfl
@[simp] theorem setBackBuf_front (b : FrameBuffer) (s : State) : (setBackBuf b s).front = s.front := rfl
@[simp] theorem setBackBuf_rxState (b : FrameBuffer) (s : State) : (setBackBuf b s).rxState = s.rxState := rfl
@[simp] theorem setBackBuf_txState (b : FrameBuffer) (s : State) : (setBackBuf b s).txState = s.txState := rfl
@[simp] theorem setBackBuf_rxErr (b : FrameBuffer) (s : State) : (setBackBuf b s).rxErr = s.rxErr := rfl
@[simp] theorem setBackBuf_ftype (b : FrameBuffer) (s : State) : (setBackBuf b s).ftype = s.ftype := rfl
@[simp] theorem setBackBuf_preIdx (b : FrameBuffer) (s : State) : (setBackBuf b s).preIdx = s.preIdx := rfl
@[simp] theorem setBackBuf_syncArmed (b : FrameBuffer) (s : State) : (setBackBuf b s).syncArmed = s.syncArmed := rfl
@[simp] theorem setBackBuf_byteclkEn (b : FrameBuffer) (s : State) : (setBackBuf b s).byteclkEn = s.byteclkEn := rfl
@[simp] theorem setBackBuf_quarantine (b : FrameBuffer) (s : State) : (setBackBuf b s).quarantine = s.quarantine := rfl
@[simp] theorem setBackBuf_drainPending (b : FrameBuffer) (s : State) : (setBackBuf b s).drainPending = s.drainPending := rfl
@[simp] theorem setBackBuf_serial (b : FrameBuffer) (s : State) : (setBackBuf b s).serial = s.serial := rfl
@[simp] theorem setBackBuf_faults (b : FrameBuffer) (s : State) : (setBackBuf b s).faults = s.faults := rfl
@[simp] theorem setBackBuf_refused (b : FrameBuffer) (s : State) : (setBackBuf b s).refused = s.refused := rfl
@[simp] theorem setBackBuf_history (b : FrameBuffer) (s : State) : (setBackBuf b s).history = s.history := rfl
@[simp] theorem setBackBuf_inputs (b : FrameBuffer) (s : State) : (setBackBuf b s).inputs = s.inputs := rfl
@[simp] theorem setBackBuf_drawCount (b : FrameBuffer) (s : State) : (setBackBuf b s).drawCount = s.drawCount := rfl
@[simp] theorem setBackBuf_reply (b : FrameBuffer) (s : State) : (setBackBuf b s).reply = s.reply := rfl

/-! ### rearm -/

@[simp] theorem rearm_mode (s : State) : (rearm s).mode = s.mode := rfl
@[simp] theorem rearm_xtalHz (s : State) : (rearm s).xtalHz = s.xtalHz := rfl
@[simp] theorem rearm_planRx (s : State) : (rearm s).planRx = s.planRx := rfl
@[simp] theorem rearm_planTx (s : State) : (rearm s).planTx = s.planTx := rfl
@[simp] theorem rearm_planErrorRx (s : State) : (rearm s).planErrorRx = s.planErrorRx := rfl
@[simp] theorem rearm_planErrorTx (s : State) : (rearm s).planErrorTx = s.planErrorTx := rfl
@[simp] theorem rearm_stageRx (s : State) : (rearm s).stageRx = s.stageRx := rfl
@[simp] theorem rearm_stageTx (s : State) : (rearm s).stageTx = s.stageTx := rfl
@[simp] theorem rearm_sys (s : State) : (rearm s).sys = s.sys := rfl
@[simp] theorem rearm_paWarm (s : State) : (rearm s).paWarm = s.paWarm := rfl
@[simp] theorem rearm_trsw (s : State) : (rearm s).trsw = s.trsw := rfl
@[simp] theorem rearm_ce (s : State) : (rearm s).ce = s.ce := rfl
@[simp] theorem rearm_afcOn (s : State) : (rearm s).afcOn = s.afcOn := rfl
@[simp] theorem rearm_afcActive (s : State) : (rearm s).afcActive = s.afcActive := rfl
@[simp] theorem rearm_syncActive (s : State) : (rearm s).syncActive = s.syncActive := rfl
@[simp] theorem rearm_cfg (s : State) : (rearm s).cfg = s.cfg := rfl
@[simp] theorem rearm_buf (s : State) : (rearm s).buf = s.buf := rfl
@[simp] theorem rearm_front (s : State) : (rearm s).front = s.front := rfl
@[simp] theorem rearm_rxState (s : State) : (rearm s).rxState = .idle := rfl
@[simp] theorem rearm_txState (s : State) : (rearm s).txState = s.txState := rfl
@[simp] theorem rearm_rxErr (s : State) : (rearm s).rxErr = 0 := rfl
@[simp] theorem rearm_ftype (s : State) : (rearm s).ftype = s.ftype := rfl
@[simp] theorem rearm_preIdx (s : State) : (rearm s).preIdx = s.preIdx := rfl
@[simp] theorem rearm_syncArmed (s : State) : (rearm s).syncArmed = true := rfl
@[simp] theorem rearm_byteclkEn (s : State) : (rearm s).byteclkEn = false := rfl
@[simp] theorem rearm_quarantine (s : State) : (rearm s).quarantine = s.quarantine := rfl
@[simp] theorem rearm_drainPending (s : State) : (rearm s).drainPending = s.drainPending := rfl
@[simp] theorem rearm_serial (s : State) : (rearm s).serial = s.serial := rfl
@[simp] theorem rearm_faults (s : State) : (rearm s).faults = s.faults := rfl
@[simp] theorem rearm_refused (s : State) : (rearm s).refused = s.refused := rfl
@[simp] theorem rearm_history (s : State) : (rearm s).history = s.history := rfl
@[simp] theorem rearm_inputs (s : State) : (rearm s).inputs = s.inputs := rfl
@[simp] theorem rearm_drawCount (s : State) : (rearm s).drawCount = s.drawCount := rfl
@[simp] theorem rearm_reply (s : State) : (rearm s).reply = s.reply := rfl

/-! ### takeTo -/

@[simp] theorem takeTo_mode (src : Source) (rest : List Byte) (later : List Packet) (s : State) : (takeTo src rest later s).mode = s.mode := rfl
@[simp] theorem takeTo_xtalHz (src : Source) (rest : List Byte) (later : List Packet) (s : State) : (takeTo src rest later s).xtalHz = s.xtalHz := rfl
@[simp] theorem takeTo_planRx (src : Source) (rest : List Byte) (later : List Packet) (s : State) : (takeTo src rest later s).planRx = s.planRx := rfl
@[simp] theorem takeTo_planTx (src : Source) (rest : List Byte) (later : List Packet) (s : State) : (takeTo src rest later s).planTx = s.planTx := rfl
@[simp] theorem takeTo_planErrorRx (src : Source) (rest : List Byte) (later : List Packet) (s : State) : (takeTo src rest later s).planErrorRx = s.planErrorRx := rfl
@[simp] theorem takeTo_planErrorTx (src : Source) (rest : List Byte) (later : List Packet) (s : State) : (takeTo src rest later s).planErrorTx = s.planErrorTx := rfl
@[simp] theorem takeTo_stageRx (src : Source) (rest : List Byte) (later : List Packet) (s : State) : (takeTo src rest later s).stageRx = s.stageRx := rfl
@[simp] theorem takeTo_stageTx (src : Source) (rest : List Byte) (later : List Packet) (s : State) : (takeTo src rest later s).stageTx = s.stageTx := rfl
@[simp] theorem takeTo_sys (src : Source) (rest : List Byte) (later : List Packet) (s : State) : (takeTo src rest later s).sys = s.sys := rfl
@[simp] theorem takeTo_paWarm (src : Source) (rest : List Byte) (later : List Packet) (s : State) : (takeTo src rest later s).paWarm = s.paWarm := rfl
@[simp] theorem takeTo_trsw (src : Source) (rest : List Byte) (later : List Packet) (s : State) : (takeTo src rest later s).trsw = s.trsw := rfl
@[simp] theorem takeTo_ce (src : Source) (rest : List Byte) (later : List Packet) (s : State) : (takeTo src rest later s).ce = s.ce := rfl
@[simp] theorem takeTo_afcOn (src : Source) (rest : List Byte) (later : List Packet) (s : State) : (takeTo src rest later s).afcOn = s.afcOn := rfl
@[simp] theorem takeTo_afcActive (src : Source) (rest : List Byte) (later : List Packet) (s : State) : (takeTo src rest later s).afcActive = s.afcActive := rfl
@[simp] theorem takeTo_syncActive (src : Source) (rest : List Byte) (later : List Packet) (s : State) : (takeTo src rest later s).syncActive = s.syncActive := rfl
@[simp] theorem takeTo_cfg (src : Source) (rest : List Byte) (later : List Packet) (s : State) : (takeTo src rest later s).cfg = s.cfg := rfl
@[simp] theorem takeTo_buf (src : Source) (rest : List Byte) (later : List Packet) (s : State) : (takeTo src rest later s).buf = s.buf := rfl
@[simp] theorem takeTo_front (src : Source) (rest : List Byte) (later : List Packet) (s : State) : (takeTo src rest later s).front = s.front := rfl
@[simp] theorem takeTo_rxState (src : Source) (rest : List Byte) (later : List Packet) (s : State) : (takeTo src rest later s).rxState = s.rxState := rfl
@[simp] theorem takeTo_txState (src : Source) (rest : List Byte) (later : List Packet) (s : State) : (takeTo src rest later s).txState = s.txState := rfl
@[simp] theorem takeTo_rxErr (src : Source) (rest : List Byte) (later : List Packet) (s : State) : (takeTo src rest later s).rxErr = s.rxErr := rfl
@[simp] theorem takeTo_ftype (src : Source) (rest : List Byte) (later : List Packet) (s : State) : (takeTo src rest later s).ftype = s.ftype := rfl
@[simp] theorem takeTo_preIdx (src : Source) (rest : List Byte) (later : List Packet) (s : State) : (takeTo src rest later s).preIdx = s.preIdx := rfl
@[simp] theorem takeTo_syncArmed (src : Source) (rest : List Byte) (later : List Packet) (s : State) : (takeTo src rest later s).syncArmed = s.syncArmed := rfl
@[simp] theorem takeTo_byteclkEn (src : Source) (rest : List Byte) (later : List Packet) (s : State) : (takeTo src rest later s).byteclkEn = s.byteclkEn := rfl
@[simp] theorem takeTo_quarantine (src : Source) (rest : List Byte) (later : List Packet) (s : State) : (takeTo src rest later s).quarantine = s.quarantine := rfl
@[simp] theorem takeTo_drainPending (src : Source) (rest : List Byte) (later : List Packet) (s : State) : (takeTo src rest later s).drainPending = s.drainPending := rfl
@[simp] theorem takeTo_serial (src : Source) (rest : List Byte) (later : List Packet) (s : State) : (takeTo src rest later s).serial = s.serial := rfl
@[simp] theorem takeTo_faults (src : Source) (rest : List Byte) (later : List Packet) (s : State) : (takeTo src rest later s).faults = s.faults := rfl
@[simp] theorem takeTo_refused (src : Source) (rest : List Byte) (later : List Packet) (s : State) : (takeTo src rest later s).refused = s.refused := rfl
@[simp] theorem takeTo_history (src : Source) (rest : List Byte) (later : List Packet) (s : State) : (takeTo src rest later s).history = s.history := rfl
@[simp] theorem takeTo_inputs (src : Source) (rest : List Byte) (later : List Packet) (s : State) : (takeTo src rest later s).inputs = queueAfter src rest later := rfl
@[simp] theorem takeTo_drawCount (src : Source) (rest : List Byte) (later : List Packet) (s : State) : (takeTo src rest later s).drawCount = s.drawCount := rfl
@[simp] theorem takeTo_reply (src : Source) (rest : List Byte) (later : List Packet) (s : State) : (takeTo src rest later s).reply = s.reply := rfl

/-! ### raiseFault -/

@[simp] theorem raiseFault_mode (f : Fault) (s : State) : (raiseFault f s).mode = s.mode := rfl
@[simp] theorem raiseFault_xtalHz (f : Fault) (s : State) : (raiseFault f s).xtalHz = s.xtalHz := rfl
@[simp] theorem raiseFault_planRx (f : Fault) (s : State) : (raiseFault f s).planRx = s.planRx := rfl
@[simp] theorem raiseFault_planTx (f : Fault) (s : State) : (raiseFault f s).planTx = s.planTx := rfl
@[simp] theorem raiseFault_planErrorRx (f : Fault) (s : State) : (raiseFault f s).planErrorRx = s.planErrorRx := rfl
@[simp] theorem raiseFault_planErrorTx (f : Fault) (s : State) : (raiseFault f s).planErrorTx = s.planErrorTx := rfl
@[simp] theorem raiseFault_stageRx (f : Fault) (s : State) : (raiseFault f s).stageRx = s.stageRx := rfl
@[simp] theorem raiseFault_stageTx (f : Fault) (s : State) : (raiseFault f s).stageTx = s.stageTx := rfl
@[simp] theorem raiseFault_sys (f : Fault) (s : State) : (raiseFault f s).sys = s.sys := rfl
@[simp] theorem raiseFault_paWarm (f : Fault) (s : State) : (raiseFault f s).paWarm = s.paWarm := rfl
@[simp] theorem raiseFault_trsw (f : Fault) (s : State) : (raiseFault f s).trsw = s.trsw := rfl
@[simp] theorem raiseFault_ce (f : Fault) (s : State) : (raiseFault f s).ce = s.ce := rfl
@[simp] theorem raiseFault_afcOn (f : Fault) (s : State) : (raiseFault f s).afcOn = s.afcOn := rfl
@[simp] theorem raiseFault_afcActive (f : Fault) (s : State) : (raiseFault f s).afcActive = s.afcActive := rfl
@[simp] theorem raiseFault_syncActive (f : Fault) (s : State) : (raiseFault f s).syncActive = s.syncActive := rfl
@[simp] theorem raiseFault_cfg (f : Fault) (s : State) : (raiseFault f s).cfg = s.cfg := rfl
@[simp] theorem raiseFault_buf (f : Fault) (s : State) : (raiseFault f s).buf = s.buf := rfl
@[simp] theorem raiseFault_front (f : Fault) (s : State) : (raiseFault f s).front = s.front := rfl
@[simp] theorem raiseFault_rxState (f : Fault) (s : State) : (raiseFault f s).rxState = s.rxState := rfl
@[simp] theorem raiseFault_txState (f : Fault) (s : State) : (raiseFault f s).txState = s.txState := rfl
@[simp] theorem raiseFault_rxErr (f : Fault) (s : State) : (raiseFault f s).rxErr = s.rxErr := rfl
@[simp] theorem raiseFault_ftype (f : Fault) (s : State) : (raiseFault f s).ftype = s.ftype := rfl
@[simp] theorem raiseFault_preIdx (f : Fault) (s : State) : (raiseFault f s).preIdx = s.preIdx := rfl
@[simp] theorem raiseFault_syncArmed (f : Fault) (s : State) : (raiseFault f s).syncArmed = s.syncArmed := rfl
@[simp] theorem raiseFault_byteclkEn (f : Fault) (s : State) : (raiseFault f s).byteclkEn = s.byteclkEn := rfl
@[simp] theorem raiseFault_quarantine (f : Fault) (s : State) : (raiseFault f s).quarantine = s.quarantine := rfl
@[simp] theorem raiseFault_drainPending (f : Fault) (s : State) : (raiseFault f s).drainPending = s.drainPending := rfl
@[simp] theorem raiseFault_serial (f : Fault) (s : State) : (raiseFault f s).serial = s.serial := rfl
@[simp] theorem raiseFault_faults (f : Fault) (s : State) : (raiseFault f s).faults = f :: s.faults := rfl
@[simp] theorem raiseFault_refused (f : Fault) (s : State) : (raiseFault f s).refused = s.refused := rfl
@[simp] theorem raiseFault_history (f : Fault) (s : State) : (raiseFault f s).history = s.history := rfl
@[simp] theorem raiseFault_inputs (f : Fault) (s : State) : (raiseFault f s).inputs = s.inputs := rfl
@[simp] theorem raiseFault_drawCount (f : Fault) (s : State) : (raiseFault f s).drawCount = s.drawCount := rfl
@[simp] theorem raiseFault_reply (f : Fault) (s : State) : (raiseFault f s).reply = s.reply := rfl

/-! ### markRefused -/

@[simp] theorem markRefused_mode (s : State) : (markRefused s).mode = s.mode := rfl
@[simp] theorem markRefused_xtalHz (s : State) : (markRefused s).xtalHz = s.xtalHz := rfl
@[simp] theorem markRefused_planRx (s : State) : (markRefused s).planRx = s.planRx := rfl
@[simp] theorem markRefused_planTx (s : State) : (markRefused s).planTx = s.planTx := rfl
@[simp] theorem markRefused_planErrorRx (s : State) : (markRefused s).planErrorRx = s.planErrorRx := rfl
@[simp] theorem markRefused_planErrorTx (s : State) : (markRefused s).planErrorTx = s.planErrorTx := rfl
@[simp] theorem markRefused_stageRx (s : State) : (markRefused s).stageRx = s.stageRx := rfl
@[simp] theorem markRefused_stageTx (s : State) : (markRefused s).stageTx = s.stageTx := rfl
@[simp] theorem markRefused_sys (s : State) : (markRefused s).sys = s.sys := rfl
@[simp] theorem markRefused_paWarm (s : State) : (markRefused s).paWarm = s.paWarm := rfl
@[simp] theorem markRefused_trsw (s : State) : (markRefused s).trsw = s.trsw := rfl
@[simp] theorem markRefused_ce (s : State) : (markRefused s).ce = s.ce := rfl
@[simp] theorem markRefused_afcOn (s : State) : (markRefused s).afcOn = s.afcOn := rfl
@[simp] theorem markRefused_afcActive (s : State) : (markRefused s).afcActive = s.afcActive := rfl
@[simp] theorem markRefused_syncActive (s : State) : (markRefused s).syncActive = s.syncActive := rfl
@[simp] theorem markRefused_cfg (s : State) : (markRefused s).cfg = s.cfg := rfl
@[simp] theorem markRefused_buf (s : State) : (markRefused s).buf = s.buf := rfl
@[simp] theorem markRefused_front (s : State) : (markRefused s).front = s.front := rfl
@[simp] theorem markRefused_rxState (s : State) : (markRefused s).rxState = s.rxState := rfl
@[simp] theorem markRefused_txState (s : State) : (markRefused s).txState = s.txState := rfl
@[simp] theorem markRefused_rxErr (s : State) : (markRefused s).rxErr = s.rxErr := rfl
@[simp] theorem markRefused_ftype (s : State) : (markRefused s).ftype = s.ftype := rfl
@[simp] theorem markRefused_preIdx (s : State) : (markRefused s).preIdx = s.preIdx := rfl
@[simp] theorem markRefused_syncArmed (s : State) : (markRefused s).syncArmed = s.syncArmed := rfl
@[simp] theorem markRefused_byteclkEn (s : State) : (markRefused s).byteclkEn = s.byteclkEn := rfl
@[simp] theorem markRefused_quarantine (s : State) : (markRefused s).quarantine = s.quarantine := rfl
@[simp] theorem markRefused_drainPending (s : State) : (markRefused s).drainPending = s.drainPending := rfl
@[simp] theorem markRefused_serial (s : State) : (markRefused s).serial = s.serial := rfl
@[simp] theorem markRefused_faults (s : State) : (markRefused s).faults = s.faults := rfl
@[simp] theorem markRefused_refused (s : State) : (markRefused s).refused = true := rfl
@[simp] theorem markRefused_history (s : State) : (markRefused s).history = s.history := rfl
@[simp] theorem markRefused_inputs (s : State) : (markRefused s).inputs = s.inputs := rfl
@[simp] theorem markRefused_drawCount (s : State) : (markRefused s).drawCount = s.drawCount := rfl
@[simp] theorem markRefused_reply (s : State) : (markRefused s).reply = s.reply := rfl

end Sys2Proof.Machine
end

