-- ==== Sys2Proof/Laws/Memory.lean ====
section
/-! SUPPORT. What the payload-memory operations do: a read after a write, the canonical form kept, a whole frame written, a whole frame read (R37, R61, R77, R118). -/

namespace Sys2Proof.Machine

theorem Memory.read_nil (a : Nat) : Memory.read [] a = none := rfl

/-- Below the first address of a memory nothing is listed. -/
theorem Memory.read_eq_none_of_lt {m : Memory} {a : Nat} (h : ∀ x ∈ m, a < x.1) : Memory.read m a = none := by
  induction m with
  | nil => rfl
  | cons x m ih =>
    obtain ⟨k, v⟩ := x
    have hk : a < k := h (k, v) (by simp)
    rw [Memory.read, if_neg (by omega)]
    exact ih fun y hy => h y (by simp [hy])

/-- A read of any address after a write, the memory in canonical form. -/
theorem Memory.read_write {m : Memory} (hm : Memory.wf m) (a : Nat) (b : Byte) (j : Nat) :
    Memory.read (Memory.write m a b) j = if j = a then some b else Memory.read m j := by
  induction m with
  | nil =>
    by_cases h : j = a
    · simp [Memory.write, Memory.read, h]
    · simp [Memory.write, Memory.read, h, Ne.symm h]
  | cons x m ih =>
    obtain ⟨k, v⟩ := x
    obtain ⟨hk, hm⟩ := List.pairwise_cons.mp hm
    by_cases hja : j = a
    · subst hja
      rw [if_pos rfl, Memory.write]
      split
      · simp [Memory.read]
      · split
        · simp [Memory.read]
        · rw [Memory.read, if_neg (by omega), ih hm, if_pos rfl]
    · rw [if_neg hja, Memory.write]
      split
      · rw [Memory.read, if_neg (by omega)]
      · split
        · subst a
          rw [Memory.read, if_neg (by omega), Memory.read, if_neg (by omega)]
        · rw [Memory.read, Memory.read, ih hm, if_neg hja]

@[simp] theorem Memory.read_write_same {m : Memory} (hm : Memory.wf m) (a : Nat) (b : Byte) : Memory.read (Memory.write m a b) a = some b := by
  rw [Memory.read_write hm, if_pos rfl]

theorem Memory.read_write_other {m : Memory} (hm : Memory.wf m) {a j : Nat} (b : Byte) (h : j ≠ a) : Memory.read (Memory.write m a b) j = Memory.read m j := by
  rw [Memory.read_write hm, if_neg h]

/-- An entry after a write is the one written or was there before. -/
theorem Memory.mem_write {m : Memory} {a : Nat} {b : Byte} {x : Host.Cell} (h : x ∈ Memory.write m a b) : x = (a, b) ∨ x ∈ m := by
  induction m with
  | nil => simpa [Memory.write] using h
  | cons y m ih =>
    rw [Memory.write] at h
    split at h
    · simpa using h
    · split at h
      · simp only [List.mem_cons] at h ⊢; tauto
      · simp only [List.mem_cons] at h ⊢
        obtain h | h := h
        · exact .inr (.inl h)
        · have := ih h; tauto

/-- A write keeps the canonical form. -/
theorem Memory.write_wf {m : Memory} (hm : Memory.wf m) (a : Nat) (b : Byte) : Memory.wf (Memory.write m a b) := by
  induction m with
  | nil => simp [Memory.write]
  | cons y m ih =>
    obtain ⟨k, v⟩ := y
    obtain ⟨hk, hm'⟩ := List.pairwise_cons.mp hm
    rw [Memory.write]
    split
    · refine List.pairwise_cons.mpr ⟨fun z hz => ?_, hm⟩
      obtain rfl | hz := List.mem_cons.mp hz
      · assumption
      · have := hk z hz; simp only at *; omega
    · split
      · subst a; exact List.pairwise_cons.mpr ⟨hk, hm'⟩
      · refine List.pairwise_cons.mpr ⟨fun z hz => ?_, ih hm'⟩
        obtain rfl | hz := Memory.mem_write hz
        · simp only; omega
        · exact hk z hz

/-- Writing bytes in a row keeps the canonical form. -/
theorem Memory.writeAll_wf {m : Memory} (hm : Memory.wf m) (a : Nat) (l : List Byte) : Memory.wf (Memory.writeAll m a l) := by
  induction l generalizing m a with
  | nil => exact hm
  | cons b l ih => exact ih (Memory.write_wf hm a b) (a + 1)

/-- An entry after bytes are written in a row lies in the row or was there before. -/
theorem Memory.mem_writeAll {m : Memory} {a : Nat} {l : List Byte} {x : Host.Cell} (h : x ∈ Memory.writeAll m a l) :
    (a ≤ x.1 ∧ x.1 < a + l.length) ∨ x ∈ m := by
  induction l generalizing m a with
  | nil => exact .inr h
  | cons b l ih =>
    obtain h | h := ih h
    · simp only [List.length_cons]; left; omega
    · obtain rfl | h := Memory.mem_write h
      · simp
      · exact .inr h

/-- A read of any address after bytes are written in a row. -/
theorem Memory.read_writeAll {m : Memory} (hm : Memory.wf m) (a : Nat) (l : List Byte) (j : Nat) :
    Memory.read (Memory.writeAll m a l) j = if a ≤ j ∧ j < a + l.length then l[j - a]? else Memory.read m j := by
  induction l generalizing m a with
  | nil => simp [Memory.writeAll]
  | cons b l ih =>
    rw [Memory.writeAll, ih (Memory.write_wf hm a b), Memory.read_write hm]
    simp only [List.length_cons]
    by_cases h1 : j = a
    · subst h1
      rw [if_neg (by omega), if_pos rfl, if_pos (by omega)]
      simp
    · rw [if_neg h1]
      by_cases h2 : a + 1 ≤ j ∧ j < a + 1 + l.length
      · rw [if_pos h2, if_pos (by omega), show j - a = j - (a + 1) + 1 by omega, List.getElem?_cons_succ]
      · rw [if_neg h2, if_neg (by omega)]

/-- A payload read that answers a byte: the index is within the buffer and the cell holds it. -/
theorem readPayload_ok {c : Config} {m : Memory} {a : Nat} {b : Byte} :
    readPayload c m a = .ok b ↔ a < c.maxPayload ∧ Memory.read m a = some b := by
  unfold readPayload
  split
  · split <;> simp_all
  · simp_all

/-- A payload write that answers a memory: the index is within the buffer. -/
theorem writePayload_ok {c : Config} {m m' : Memory} {a : Nat} {b : Byte} :
    writePayload c m a b = .ok m' ↔ a < c.maxPayload ∧ m' = Memory.write m a b := by
  unfold writePayload
  split <;> simp_all [eq_comm]

/-- A read of `n` cells that answers bytes answers `n` of them, and they are what the cells hold. -/
theorem readPayloadFrom_ok {c : Config} {m : Memory} {n a : Nat} {l : List Byte} (h : readPayloadFrom c m a n = .ok l) :
    l.length = n ∧ ∀ j < n, Memory.read m (a + j) = l[j]? := by
  induction n generalizing a l with
  | zero => cases h; simp
  | succ n ih =>
    rw [readPayloadFrom] at h
    split at h
    · cases h
    · rename_i b hb
      split at h
      · cases h
      · rename_i bs hbs
        cases h
        obtain ⟨hl, hr⟩ := ih hbs
        refine ⟨by simp [hl], fun j hj => ?_⟩
        cases j with
        | zero => simpa using (readPayload_ok.mp hb).2
        | succ j => rw [List.getElem?_cons_succ, ← hr j (by omega), show a + (j + 1) = a + 1 + j by omega]

/-- A read of `n` cells that lie within the buffer and all hold a byte answers. -/
theorem readPayloadFrom_answers {c : Config} {m : Memory} {n a : Nat} (hn : a + n ≤ c.maxPayload)
    (hw : ∀ j < n, Memory.read m (a + j) ≠ none) : ∃ l, readPayloadFrom c m a n = .ok l := by
  induction n generalizing a with
  | zero => exact ⟨[], rfl⟩
  | succ n ih =>
    obtain ⟨b, hb⟩ := Option.ne_none_iff_exists'.mp (hw 0 (by omega))
    have h0 : readPayload c m a = .ok b := readPayload_ok.mpr ⟨by omega, hb⟩
    obtain ⟨l, hl⟩ := ih (a := a + 1) (by omega) fun j hj => by
      have := hw (j + 1) (by omega)
      rwa [show a + (j + 1) = a + 1 + j by omega] at this
    exact ⟨b :: l, by rw [readPayloadFrom, h0, hl]⟩

/-- The payload memories of the reset state are in canonical form. -/
theorem reset_memory_wf : Memory.wf (frontBuf State.reset).payload ∧ Memory.wf (backBuf State.reset).payload := by
  constructor <;> exact List.Pairwise.nil

end Sys2Proof.Machine
end

