-- ==== Sys2Proof/Laws/Ops.lean ====
section
/-! SUPPORT. One lemma for each shared operation that says once what it can do; later proofs cite these instead of unfolding the operation. -/

namespace Sys2Proof.Machine

/-! ### Outcomes -/

@[simp] theorem finish_ok (s : State) : finish (.ok s) = .next s := rfl

@[simp] theorem finish_error (f : Fault) : finish (.error f) = .fault f := rfl

theorem finish_eq_next {r : Except Fault State} {t : State} : finish r = .next t ↔ r = .ok t := by
  cases r <;> simp [finish]

theorem finish_eq_fault {r : Except Fault State} {f : Fault} : finish r = .fault f ↔ r = .error f := by
  cases r <;> simp [finish]

theorem finish_ne_refused (r : Except Fault State) (q : Refusal) : finish r ≠ .refused q := by
  cases r <;> simp [finish]

/-! ### The two buffers by role -/

theorem backIndex_ne_front (s : State) : (backIndex s : Nat) ≠ (s.front : Nat) := by
  have h : ∀ i : Fin 2, ((1 - i : Fin 2) : Nat) ≠ (i : Nat) := by decide
  exact h s.front

@[simp] theorem frontBuf_setFrontBuf (b : FrameBuffer) (s : State) : frontBuf (setFrontBuf b s) = b := by
  simp [frontBuf, setFrontBuf]

@[simp] theorem backBuf_setFrontBuf (b : FrameBuffer) (s : State) : backBuf (setFrontBuf b s) = backBuf s := by
  simp only [backBuf, setFrontBuf, backIndex, Fin.getElem_fin]
  exact Vector.getElem_set_ne _ _ (backIndex_ne_front s).symm

@[simp] theorem backBuf_setBackBuf (b : FrameBuffer) (s : State) : backBuf (setBackBuf b s) = b := by
  simp [backBuf, setBackBuf, backIndex]

@[simp] theorem frontBuf_setBackBuf (b : FrameBuffer) (s : State) : frontBuf (setBackBuf b s) = frontBuf s := by
  simp only [frontBuf, setBackBuf, Fin.getElem_fin]
  exact Vector.getElem_set_ne _ _ (backIndex_ne_front s)

/-- The roles depend on `buf` and `front` alone. -/
theorem frontBuf_congr {s t : State} (hb : t.buf = s.buf) (hf : t.front = s.front) : frontBuf t = frontBuf s := by
  simp [frontBuf, hb, hf]

theorem backBuf_congr {s t : State} (hb : t.buf = s.buf) (hf : t.front = s.front) : backBuf t = backBuf s := by
  simp [backBuf, backIndex, hb, hf]

/-- After a swap the buffer that was in front is the back one. -/
theorem backBuf_swap (s : State) : backBuf { s with front := backIndex s } = frontBuf s := by
  have h : ∀ i : Fin 2, (1 - (1 - i) : Fin 2) = i := by decide
  simp [backBuf, frontBuf, backIndex, h]

/-- After a swap the buffer that was in the back is the front one. -/
theorem frontBuf_swap (s : State) : frontBuf { s with front := backIndex s } = backBuf s := rfl

/-! ### Flags (R116) -/

theorem ready_setReady (b : FrameBuffer) : FrameBuffer.ready { b with flags := setReady b.flags } = true := by
  have h : ∀ f : Byte, (setReady f).getLsbD 0 = true := by decide
  exact h b.flags

theorem ready_clearReady (b : FrameBuffer) : FrameBuffer.ready { b with flags := clearReady b.flags } = false := by
  have h : ∀ f : Byte, (clearReady f).getLsbD 0 = false := by decide
  exact h b.flags

/-! ### Images (R20 to R22, R170) -/

/-- The address field of a staged value is the register it was staged for (R21). -/
@[simp] theorem addrOf_staged (a : RegAddr) (p : Nat) : addrOf (staged a p) = a := by
  ext i hi
  simp only [addrOf, BitVec.getElem_setWidth]
  change (BitVec.ofNat 28 p ++ a : BitVec (28 + 4)).getLsbD i = a[i]
  rw [BitVec.getLsbD_append, if_pos hi, BitVec.getLsbD_eq_getElem hi]

/-- The payload field of a staged value is the payload's low 28 bits (R170). -/
@[simp] theorem payloadOf_staged (a : RegAddr) (p : Nat) : payloadOf (staged a p) = BitVec.ofNat 28 p := by
  ext i hi
  simp only [payloadOf, BitVec.getElem_extractLsb']
  change (BitVec.ofNat 28 p ++ a : BitVec (28 + 4)).getLsbD (4 + i) = _
  rw [BitVec.getLsbD_append, if_neg (by omega), Nat.add_sub_cancel_left, BitVec.getLsbD_eq_getElem hi]

/-- What an image holds after one address is set. -/
theorem imageAt_imageSet (m : Image) (a b : RegAddr) (v : Word) : imageAt (imageSet m a v) b = if b = a then some v else imageAt m b := by
  unfold imageAt imageSet
  by_cases h : b = a
  · subst h; simp
  · rw [if_neg h]
    exact Vector.getElem_set_ne _ _ fun e => h (BitVec.eq_of_toNat_eq e.symm)

@[simp] theorem imageAt_empty (a : RegAddr) : imageAt Image.empty a = none := by
  simp [imageAt, Image.empty]

/-- What an image holds after a sequence of addresses is staged (R175, R176). -/
theorem imageAt_stageAll (pack : RegAddr → Nat) (l : List RegAddr) (m : Image) (a : RegAddr) :
    imageAt (stageAll pack l m) a = if a ∈ l then some (staged a (pack a)) else imageAt m a := by
  induction l generalizing m with
  | nil => simp [stageAll]
  | cons b l ih =>
    rw [stageAll, ih, imageAt_imageSet]
    by_cases h1 : a ∈ l
    · simp [h1]
    · by_cases h2 : a = b
      · simp [h2]
      · simp [h1, h2]

/-- Writing what is staged at an address: it records the one write, or there is nothing to write. -/
theorem writeStaged_ok {m : Image} {a : RegAddr} {s t : State} : writeStaged m a s = .ok t ↔ ∃ v, imageAt m a = some v ∧ t = busWrite v s := by
  unfold writeStaged
  cases imageAt m a <;> simp [eq_comm]

/-- Where a value is staged, the write is the one event of it. -/
theorem writeStaged_answers {m : Image} {a : RegAddr} {s : State} (h : imageAt m a ≠ none) :
    writeStaged m a s = .ok { s with history := s.history ++ writeEvent m a } := by
  obtain ⟨v, hv⟩ := Option.ne_none_iff_exists'.mp h
  simp [writeStaged, writeEvent, hv, busWrite, record]

/-- A run of (address, payload) writes: the writes in order, and `sys` with each of them (R171, R180 to R182). -/
theorem writeSys_eq (l : List (RegAddr × Nat)) (s : State) :
    writeSys l s = { s with history := s.history ++ stagedEvents l, sys := sysAfter s.sys l } := by
  induction l generalizing s with
  | nil => simp [writeSys, stagedEvents, sysAfter]
  | cons x l ih => obtain ⟨a, p⟩ := x; simp [writeSys, ih, stagedEvents, sysAfter, busWrite, record]

/-- Every value in an image after such a run is at its own address if that held before (R21, INV9). -/
theorem sysAfter_addr {m : Image} {l : List (RegAddr × Nat)} (h : ∀ a v, imageAt m a = some v → addrOf v = a) :
    ∀ a v, imageAt (sysAfter m l) a = some v → addrOf v = a := by
  induction l generalizing m with
  | nil => exact h
  | cons x l ih =>
    refine ih (m := imageSet m x.1 (staged x.1 x.2)) fun a v hv => ?_
    rw [imageAt_imageSet] at hv
    split at hv
    · cases hv; subst a; simp
    · exact h a v hv

/-! ### Outputs and readings -/

/-- The T/R switch released (R171, R172, R371). -/
theorem releaseTr_eq (s : State) : releaseTr s = { s with trsw := false, history := s.history ++ if s.trsw then [.setTr false] else [] } := by
  unfold releaseTr driveTr record
  split
  · rfl
  · cases s; simp_all

/-- Chip power released (R371). -/
theorem releaseCe_eq (s : State) : releaseCe s = { s with ce := false, history := s.history ++ if s.ce then [.setCe false] else [] } := by
  unfold releaseCe driveCe record
  split
  · rfl
  · cases s; simp_all

/-- A readback: the word drawn, one event, one draw counted (R10, R73). -/
theorem busRead_eq (c : Config) (sel : Selector) (s : State) :
    busRead c sel s = (c.draws.readback s.drawCount sel,
      { s with history := s.history ++ [.busRead sel (c.draws.readback s.drawCount sel)], drawCount := s.drawCount + 1 }) := rfl

/-- READ_RSSI inside another command: its value and what it leaves (R183). -/
theorem readRssi_eq (c : Config) (s : State) :
    readRssi c s = (rssiOf c (c.draws.readback s.drawCount c.selRssi),
      { s with history := s.history ++ [.busRead c.selRssi (c.draws.readback s.drawCount c.selRssi)], drawCount := s.drawCount + 1 }) := rfl

/-- HostPull: the answer drawn, one event, one draw counted (R10, R117). -/
theorem hostPull_eq (c : Config) (s : State) :
    hostPull c s = (c.draws.hostPull s.drawCount,
      { s with history := s.history ++ [.hostPull (c.draws.hostPull s.drawCount)], drawCount := s.drawCount + 1 }) := rfl

/-- `transmit_allowed()`: its verdict and what it leaves (R270). -/
theorem transmitAllowed_eq (c : Config) (s : State) :
    transmitAllowed c s =
      let w := c.draws.readback s.drawCount c.selRssi
      let v := carrierSense c (rssiOf c w) s
      (v.1, { s with
        history := s.history ++ [.busRead c.selRssi w] ++ (if v.1 then [] else [.emit .csDenied]), drawCount := s.drawCount + 1, quarantine := v.2 }) := by
  unfold transmitAllowed carrierSense
  simp only [readRssi_eq]
  by_cases h1 : s.cfg.csThreshold < rssiOf c (c.draws.readback s.drawCount c.selRssi)
  · simp [h1, emit, record]
  · by_cases h2 : 0 < s.quarantine <;> simp [h1, h2, emit, record]

/-! ### Interrupt events -/

/-- An event whose enable is 1 runs its handler (R249). -/
@[simp] theorem takeEvent_true (h : State → Except Fault State) (s : State) : takeEvent true h s = h s := rfl

/-- An event whose enable is 0 is lost (R341). -/
@[simp] theorem takeEvent_false (h : State → Except Fault State) (s : State) : takeEvent false h s = .ok s := rfl

/-! ### Mode switches (R177 to R179) -/

/-- The skip of a switch to TX, from the mode it comes from (R177). -/
theorem skipsClock_tx (c : Config) (s : State) (m : Mode) (a : RegAddr) :
    skipsClock c s (dirOf m) .tx a = decide (a = c.regClk ∧ m = .receiving ∧ imageAt s.stageRx a = imageAt s.stageTx a) := by
  by_cases h : a = c.regClk
  · subst h; cases m <;> simp [skipsClock, dirOf, stageOf, beq_eq_decide]
  · cases m <;> simp [skipsClock, dirOf, h]

/-- The skip of a switch to RX, from the mode it comes from (R177). -/
theorem skipsClock_rx (c : Config) (s : State) (m : Mode) (a : RegAddr) :
    skipsClock c s (dirOf m) .rx a = decide (a = c.regClk ∧ m = .transmitting ∧ imageAt s.stageTx a = imageAt s.stageRx a) := by
  by_cases h : a = c.regClk
  · subst h; cases m <;> simp [skipsClock, dirOf, stageOf, beq_eq_decide]
  · cases m <;> simp [skipsClock, dirOf, h]

/-- The writes of a TX switch before the T/R switch, where everything is staged: they are recorded in order and nothing else changes. -/
theorem txSwitchWrites_eq {c : Config} {prev : Option Dir} {l : List RegAddr} {s : State} (h : Staged s.stageTx l) :
    txSwitchWrites c prev l s = .ok { s with
      history := s.history ++ (l.filter fun a => a ≠ c.regPll ∧ ¬ skipsClock c s prev .tx a).flatMap (writeEvent s.stageTx) } := by
  induction l generalizing s with
  | nil => simp [txSwitchWrites]
  | cons a l ih =>
    have hl : Staged s.stageTx l := fun b hb => h b (by simp [hb])
    rw [txSwitchWrites]
    split
    · rename_i hskip
      rw [ih hl, List.filter_cons_of_neg (by simp only [decide_eq_true_eq]; tauto)]
    · rename_i hskip
      rw [writeStaged_answers (h a (by simp)), List.filter_cons_of_pos (by simp only [decide_eq_true_eq]; tauto)]
      have := ih (s := { s with history := s.history ++ writeEvent s.stageTx a }) hl
      simp only [this, List.flatMap_cons, List.append_assoc]
      rfl

/-- The writes of an RX switch, where everything is staged. -/
theorem rxSwitchWrites_eq {c : Config} {prev : Option Dir} {l : List RegAddr} {s : State} (h : Staged s.stageRx l) (hclk : c.regPll ≠ c.regClk) :
    rxSwitchWrites c prev l s = .ok { s with
      trsw := if c.regPll ∈ l then false else s.trsw
      history := s.history ++ l.flatMap fun a =>
        (if skipsClock c s prev .rx a then [] else writeEvent s.stageRx a) ++ (if a = c.regPll then [.setTr false] else []) } := by
  induction l generalizing s with
  | nil => simp [rxSwitchWrites]
  | cons a l ih =>
    have hl : Staged s.stageRx l := fun b hb => h b (by simp [hb])
    rw [rxSwitchWrites]
    split
    · rename_i hskip
      have ha : a ≠ c.regPll := by
        rintro rfl
        cases prev <;> simp_all [skipsClock]
      rw [ih hl]
      simp [hskip, ha, ha.symm]
    · rename_i hskip
      rw [writeStaged_answers (h a (by simp))]
      by_cases ha : a = c.regPll
      · have := ih (s := driveTr false { s with history := s.history ++ writeEvent s.stageRx a }) hl
        simp only [ha, if_true] at this hskip ⊢
        rw [this]
        simp only [driveTr, record, List.flatMap_cons, List.mem_cons, true_or, if_true, hskip]
        simp
        rfl
      · have := ih (s := { s with history := s.history ++ writeEvent s.stageRx a }) hl
        simp only [ha, if_false]
        rw [this]
        simp only [List.flatMap_cons, List.mem_cons, Ne.symm ha, false_or, hskip, ha]
        simp
        rfl

/-- `rx_mode_switch()` where the RX sequence is staged: what it records and what it writes (R179). -/
theorem rxModeSwitch_eq {c : Config} {s : State} (h : Staged s.stageRx c.rxSeq) :
    rxModeSwitch c s = .ok { s with mode := .receiving, trsw := false, syncArmed := true, history := s.history ++ rxSwitchEvents c s } := by
  unfold rxModeSwitch
  rw [rxSwitchWrites_eq h c.valid.pll_ne_clk]
  simp [c.valid.pll_mem_rx, rxSwitchEvents, skipsClock_rx]

/-- `tx_mode_switch()` where the TX sequence and the PA are staged: what it records and what it writes (R178). -/
theorem txModeSwitch_eq {c : Config} {s : State} (h : Staged s.stageTx c.txSeq) (hpa : imageAt s.stageTx c.regPa ≠ none) :
    txModeSwitch c s = .ok { s with
      mode := .transmitting, syncArmed := false, paWarm := true, trsw := true, history := s.history ++ txSwitchEvents c s } := by
  have hpll : imageAt s.stageTx c.regPll ≠ none := h _ (List.mem_of_getLast? c.valid.pll_last_tx)
  have hw : warmPa c { s with syncArmed := false } =
      .ok { s with syncArmed := false, paWarm := true, history := s.history ++ if s.paWarm then [] else writeEvent s.stageTx c.regPa } := by
    unfold warmPa
    split
    · rename_i hp
      cases s; simp_all
    · rename_i hp
      rw [writeStaged_answers hpa]
  unfold txModeSwitch
  simp only [hw]
  rw [txSwitchWrites_eq (by exact h)]
  simp only [skipsClock_tx, decide_eq_true_eq]
  rw [writeStaged_answers (by exact hpll)]
  simp only [driveTr, record, txSwitchEvents]
  congr 2
  simp only [List.append_assoc]

/-! ### The chip's registers, read from the history (R23, R72) -/

@[simp] theorem chipAfter_write (a : RegAddr) (h : Option Word) (v : Word) : chipAfter a h (.busWrite v) = if addrOf v = a then some v else h := rfl

@[simp] theorem chipAfter_powerOff (a : RegAddr) (h : Option Word) : chipAfter a h (.setCe false) = none := rfl

@[simp] theorem chipAfter_setTr (a : RegAddr) (h : Option Word) (b : Bool) : chipAfter a h (.setTr b) = h := rfl

/-- An event that does not take the chip's power: what it writes, else the word held before. -/
theorem chipAfter_or (a : RegAddr) (h : Option Word) {e : Event} (he : e ≠ .setCe false) : chipAfter a h e = (chipAfter a none e).or h := by
  cases e with
  | busWrite v => rw [chipAfter_write, chipAfter_write]; by_cases hv : addrOf v = a <;> simp [hv]
  | setCe b => cases b with
    | false => exact absurd rfl he
    | true => rfl
  | _ => rfl

/-- Events that do not take the chip's power: what they write decides, else the word held before stays. -/
theorem foldl_chipAfter {a : RegAddr} {m : List Event} (hm : Event.setCe false ∉ m) (h : Option Word) :
    m.foldl (chipAfter a) h = (chipRegister a m).or h := by
  unfold chipRegister
  induction m generalizing h with
  | nil => rfl
  | cons e m ih =>
    have ⟨he, hm'⟩ := not_or.mp (mt List.mem_cons.mpr hm)
    rw [List.foldl_cons, List.foldl_cons, ih hm', ih hm' (chipAfter a none e), chipAfter_or a h (Ne.symm he), Option.or_assoc]

/-- A later event decides, where it writes the register and the chip keeps its power. -/
theorem chipRegister_append {a : RegAddr} {m : List Event} (hm : Event.setCe false ∉ m) (l : List Event) :
    chipRegister a (l ++ m) = (chipRegister a m).or (chipRegister a l) := by
  rw [← foldl_chipAfter hm]
  exact List.foldl_append

/-- After the chip lost its power no register holds a word (R351). -/
theorem chipRegister_powerOff (a : RegAddr) (l : List Event) : chipRegister a (l ++ [.setCe false]) = none := by
  rw [chipRegister, List.foldl_append]
  rfl

theorem powerOff_notMem_writeEvent (m : Image) (a : RegAddr) : Event.setCe false ∉ writeEvent m a := by
  unfold writeEvent
  split <;> simp

/-- What the writes of staged values leave: each register of the list its own staged value (R21). -/
theorem chipRegister_writes {a : RegAddr} {m : Image} {l : List RegAddr} (hm : ∀ a v, imageAt m a = some v → addrOf v = a) (hl : Staged m l) :
    chipRegister a (l.flatMap (writeEvent m)) = if a ∈ l then imageAt m a else none := by
  induction l with
  | nil => rfl
  | cons b l ih =>
    have hl' : Staged m l := fun x hx => hl x (by simp [hx])
    obtain ⟨v, hv⟩ := Option.ne_none_iff_exists'.mp (hl b (by simp))
    have hp : Event.setCe false ∉ l.flatMap (writeEvent m) := by
      simp only [List.mem_flatMap, not_exists, not_and]
      exact fun x _ => powerOff_notMem_writeEvent m x
    rw [List.flatMap_cons, chipRegister_append hp, ih hl']
    simp only [writeEvent, hv, chipRegister, List.foldl_cons, List.foldl_nil, chipAfter_write, hm b v hv, List.mem_cons]
    by_cases h1 : a ∈ l
    · obtain ⟨w, hw⟩ := Option.ne_none_iff_exists'.mp (hl' a h1)
      simp [h1, hw]
    · by_cases h2 : b = a
      · subst h2; simp [h1, hv]
      · simp [h1, h2, Ne.symm h2]

/-- A mode switch keeps the chip's power. -/
theorem powerOff_notMem_switch (c : Config) (s : State) : Event.setCe false ∉ txSwitchEvents c s ∧ Event.setCe false ∉ rxSwitchEvents c s := by
  constructor
  · simp only [txSwitchEvents, List.mem_append, List.mem_flatMap, not_or, not_exists, not_and]
    refine ⟨⟨⟨?_, fun x _ => powerOff_notMem_writeEvent _ x⟩, by simp⟩, powerOff_notMem_writeEvent _ _⟩
    split
    · simp
    · exact powerOff_notMem_writeEvent _ _
  · simp only [rxSwitchEvents, List.mem_append, List.mem_flatMap, not_exists, not_and, not_or]
    refine fun x _ => ⟨?_, by split <;> simp⟩
    split
    · simp
    · exact powerOff_notMem_writeEvent _ _

/-! ### Reset (R60, R370, R371) -/

/-- What every later reset keeps (R370, R371). -/
theorem clearState_kept (c : Config) (s : State) :
    (clearState c s).serial = s.serial ∧ (clearState c s).faults = s.faults ∧ (clearState c s).refused = s.refused ∧ (clearState c s).history = s.history :=
  ⟨rfl, rfl, rfl, rfl⟩

end Sys2Proof.Machine
end

