-- ==== Sys2Proof/Laws/PerInstr.lean ====
section
/-! SUPPORT. The per-instruction family EncodedLength: how long each byte form is, and that its opcode is assigned (R103, R107). -/

namespace Sys2Proof.Laws

/-- The length of a CVAL field (R104). -/
def cvalLength : ConfigArg → Nat
  | .absent => 0
  | .u8 _ => 1
  | .u32 _ => 4
  | .rat _ => 8

/-- The length in bytes of the byte form: fixed by the opcode, but for a BYTES field, which carries its own length, and a CVAL field, whose length its id fixes (R103). -/
def tableLength : Instr → Nat
  | .planClocks _ _ _ => 21
  | .powerOn _ => 5
  | .powerOff => 1
  | .configureRx _ _ _ _ => 22
  | .configureTx _ _ _ => 21
  | .setRxMode => 1
  | .setTxMode => 1
  | .setSyncWord _ _ _ => 7
  | .enableAfc _ _ _ => 13
  | .disableAfc => 1
  | .readRssi => 1
  | .readAfcOffset => 1
  | .readTemperature => 1
  | .readSupplyVoltage => 1
  | .readChipVersion => 1
  | .reconfigure => 1
  | .regWrite _ => 5
  | .regRead _ => 2
  | .scrGenerate _ => 3
  | .scrApply data seq => 5 + data.length + seq.length
  | .csCheck => 1
  | .txStart => 1
  | .rxDrainBegin => 1
  | .rxDrainEnd => 1
  | .configGet _ => 2
  | .configSet _ v => 2 + cvalLength v
  | .serialGet => 1
  | .serialSet _ => 5
  | .fwRevGet => 1
  | .softReset => 1
  | .bootloaderEnter => 1
  | .evSyncDetect => 1
  | .evByteClock _ => 2
  | .evPowerUpReset => 1

/-- The byte form has the length the table gives it, and its first byte is an opcode the table lists. -/
def EncodedLength.Statement (i : Instr) : Prop := (encode i).length = tableLength i ∧ (operandReader i.opcode).isSome = true

theorem EncodedLength.planClocks : ∀ xtal rate h, EncodedLength.Statement (.planClocks xtal rate h) := fun _ _ _ => ⟨rfl, rfl⟩

theorem EncodedLength.powerOn : ∀ xtal, EncodedLength.Statement (.powerOn xtal) := fun _ => ⟨rfl, rfl⟩

theorem EncodedLength.powerOff : EncodedLength.Statement .powerOff := ⟨rfl, rfl⟩

theorem EncodedLength.configureRx : ∀ rate h freq ifbw, EncodedLength.Statement (.configureRx rate h freq ifbw) := fun _ _ _ _ => ⟨rfl, rfl⟩

theorem EncodedLength.configureTx : ∀ rate h freq, EncodedLength.Statement (.configureTx rate h freq) := fun _ _ _ => ⟨rfl, rfl⟩

theorem EncodedLength.setRxMode : EncodedLength.Statement .setRxMode := ⟨rfl, rfl⟩

theorem EncodedLength.setTxMode : EncodedLength.Statement .setTxMode := ⟨rfl, rfl⟩

theorem EncodedLength.setSyncWord : ∀ word len tol, EncodedLength.Statement (.setSyncWord word len tol) := fun _ _ _ => ⟨rfl, rfl⟩

theorem EncodedLength.enableAfc : ∀ range ki kp, EncodedLength.Statement (.enableAfc range ki kp) := fun _ _ _ => ⟨rfl, rfl⟩

theorem EncodedLength.disableAfc : EncodedLength.Statement .disableAfc := ⟨rfl, rfl⟩

theorem EncodedLength.readRssi : EncodedLength.Statement .readRssi := ⟨rfl, rfl⟩

theorem EncodedLength.readAfcOffset : EncodedLength.Statement .readAfcOffset := ⟨rfl, rfl⟩

theorem EncodedLength.readTemperature : EncodedLength.Statement .readTemperature := ⟨rfl, rfl⟩

theorem EncodedLength.readSupplyVoltage : EncodedLength.Statement .readSupplyVoltage := ⟨rfl, rfl⟩

theorem EncodedLength.readChipVersion : EncodedLength.Statement .readChipVersion := ⟨rfl, rfl⟩

theorem EncodedLength.reconfigure : EncodedLength.Statement .reconfigure := ⟨rfl, rfl⟩

theorem EncodedLength.regWrite : ∀ v, EncodedLength.Statement (.regWrite v) := fun _ => ⟨rfl, rfl⟩

theorem EncodedLength.regRead : ∀ sel, EncodedLength.Statement (.regRead sel) := fun _ => ⟨rfl, rfl⟩

theorem EncodedLength.scrGenerate : ∀ len, EncodedLength.Statement (.scrGenerate len) := fun _ => ⟨rfl, rfl⟩

theorem EncodedLength.scrApply : ∀ data seq, EncodedLength.Statement (.scrApply data seq) := fun data seq => ⟨by simp [encode, Instr.operandBytes, putBytes, putU16, tableLength]; omega, rfl⟩

theorem EncodedLength.csCheck : EncodedLength.Statement .csCheck := ⟨rfl, rfl⟩

theorem EncodedLength.txStart : EncodedLength.Statement .txStart := ⟨rfl, rfl⟩

theorem EncodedLength.rxDrainBegin : EncodedLength.Statement .rxDrainBegin := ⟨rfl, rfl⟩

theorem EncodedLength.rxDrainEnd : EncodedLength.Statement .rxDrainEnd := ⟨rfl, rfl⟩

theorem EncodedLength.configGet : ∀ id, EncodedLength.Statement (.configGet id) := fun _ => ⟨rfl, rfl⟩

theorem EncodedLength.configSet : ∀ id v, EncodedLength.Statement (.configSet id v) := fun _ v => ⟨by cases v <;> simp [encode, Instr.operandBytes, putCval, putRat, putU32, tableLength, cvalLength], rfl⟩

theorem EncodedLength.serialGet : EncodedLength.Statement .serialGet := ⟨rfl, rfl⟩

theorem EncodedLength.serialSet : ∀ v, EncodedLength.Statement (.serialSet v) := fun _ => ⟨rfl, rfl⟩

theorem EncodedLength.fwRevGet : EncodedLength.Statement .fwRevGet := ⟨rfl, rfl⟩

theorem EncodedLength.softReset : EncodedLength.Statement .softReset := ⟨rfl, rfl⟩

theorem EncodedLength.bootloaderEnter : EncodedLength.Statement .bootloaderEnter := ⟨rfl, rfl⟩

theorem EncodedLength.evSyncDetect : EncodedLength.Statement .evSyncDetect := ⟨rfl, rfl⟩

theorem EncodedLength.evByteClock : ∀ b, EncodedLength.Statement (.evByteClock b) := fun _ => ⟨rfl, rfl⟩

theorem EncodedLength.evPowerUpReset : EncodedLength.Statement .evPowerUpReset := ⟨rfl, rfl⟩

end Sys2Proof.Laws
end

