-- ==== Sys2Proof/Laws/Planner.lean ====
section
/-! SUPPORT. Rounding, the planner's rejection rule and the table of R141, said once. -/

namespace Sys2Proof.Machine

/-- `round` of a value that is not negative is the floor of R140. -/
theorem roundNat_cast {x : Rat} (h : 0 ≤ x) : (roundNat x : Int) = (x + 1 / 2).floor := by
  unfold roundNat roundHalfUp
  refine Int.toNat_of_nonneg ?_
  rw [Rat.le_floor_iff]
  push_cast
  linarith

/-- An accepted candidate (R147). -/
theorem not_rejected {xtal : Nat} {rate : Rat} {k d : Nat} :
    rejected xtal rate k d = false ↔ discBw xtal k d ≤ 660 ∧ cdrDivide xtal rate d ≤ 255 ∧ cdrDivide xtal rate d ≠ 0 := by
  simp only [rejected, Bool.or_eq_false_iff, decide_eq_false_iff_not, beq_eq_false_iff_ne, not_lt, and_assoc]
  exact Iff.rfl

theorem mem_candidateDividers {d : Nat} : d ∈ candidateDividers ↔ 1 ≤ d ∧ d ≤ 14 := by
  simp only [candidateDividers, List.mem_cons, List.not_mem_nil, or_false]
  omega

/-- What a plan's fields are, and that its divider is what the search found (R153). -/
theorem planClocks_some {c : Config} {xtal : Nat} {rate h : Rat} {r : PlannerResult} (hp : planClocks c xtal rate h = some r) :
    r.dev = deviationWord xtal rate h ∧ r.dev ≠ 0 ∧ r.fdev = deviationHz xtal r.dev ∧ r.k = demodScale r.fdev
      ∧ searchDivider xtal rate r.k = some r.demClkDivide ∧ r.cdrClkDivide = cdrDivide xtal rate r.demClkDivide
      ∧ r.discBw = discBw xtal r.k r.demClkDivide ∧ r.realDataRate = realRate xtal rate r.demClkDivide
      ∧ r.postDemodBw = postDemodBw r.cdrClkDivide ∧ r.realModIndex = 2 * r.fdev / r.realDataRate := by
  unfold planClocks at hp
  simp only at hp
  split at hp
  · cases hp
  · rename_i h0
    split at hp
    · cases hp
    · rename_i w hs
      cases hp
      exact ⟨rfl, h0, rfl, rfl, hs, rfl, rfl, rfl, rfl, rfl⟩

end Sys2Proof.Machine
end

