-- ==== Sys2Proof/Tests/Slice0.lean ====
section
/-! SUPPORT. The model's own tests: the checks of WellFormed, the decoding of words written out from R102 to R107, single steps under the test instance TI of `95_test_vectors.md`, and, for every statement with hypotheses, a state and operands that meet them. -/

namespace Sys2Proof.Tests

open Sys2Proof Sys2Proof.Machine Sys2Proof.Safety

set_option Elab.async false

/-! ### WellFormed: an ill-formed term for each check -/

theorem test_wf_planClocks_rate : (Instr.planClocks 1#32 ⟨1#32, 0#32⟩ ⟨1#32, 1#32⟩).wellFormed = false := by decide

theorem test_wf_planClocks_h : (Instr.planClocks 1#32 ⟨1#32, 1#32⟩ ⟨1#32, 0#32⟩).wellFormed = false := by decide

theorem test_wf_configureRx_rate : (Instr.configureRx ⟨1#32, 0#32⟩ ⟨1#32, 1#32⟩ 1#32 0#8).wellFormed = false := by decide

theorem test_wf_configureRx_h : (Instr.configureRx ⟨1#32, 1#32⟩ ⟨1#32, 0#32⟩ 1#32 0#8).wellFormed = false := by decide

theorem test_wf_configureTx_rate : (Instr.configureTx ⟨1#32, 0#32⟩ ⟨1#32, 1#32⟩ 1#32).wellFormed = false := by decide

theorem test_wf_configureTx_h : (Instr.configureTx ⟨1#32, 1#32⟩ ⟨1#32, 0#32⟩ 1#32).wellFormed = false := by decide

theorem test_wf_scrApply_data (l : List Byte) (h : l.length = 65536) : (Instr.scrApply l []).wellFormed = false := by
  simp [Instr.wellFormed, bytesWellFormed, h]

theorem test_wf_scrApply_seq (l : List Byte) (h : l.length = 65536) : (Instr.scrApply [] l).wellFormed = false := by
  simp [Instr.wellFormed, bytesWellFormed, h]

theorem test_wf_configSet_absent : (Instr.configSet 0x10#8 .absent).wellFormed = false := by decide

theorem test_wf_configSet_u8 : (Instr.configSet 0x05#8 (.u8 0#8)).wellFormed = false := by decide

theorem test_wf_configSet_u32 : (Instr.configSet 0x11#8 (.u32 0#32)).wellFormed = false ∧ (Instr.configSet 0x02#8 (.u32 0#32)).wellFormed = false := by decide

theorem test_wf_configSet_rat : (Instr.configSet 0x05#8 (.rat ⟨1#32, 1#32⟩)).wellFormed = false ∧ (Instr.configSet 0x04#8 (.rat ⟨1#32, 0#32⟩)).wellFormed = false := by decide

/-! ### Decoding: one word for each constructor, written out from R102, R103, R104 and R107, with a byte that follows -/

theorem test_decode_planClocks : decode [0x01#8, 0x00#8, 0xF4#8, 0x24#8, 0x00#8, 0x00#8, 0x00#8, 0x09#8, 0x60#8, 0x00#8, 0x00#8, 0x00#8, 0x01#8, 0x00#8, 0x00#8, 0x00#8, 0x08#8, 0x00#8, 0x00#8, 0x00#8, 0x01#8, 0xEE#8] = .ok (.planClocks 16000000#32 ⟨2400#32, 1#32⟩ ⟨8#32, 1#32⟩, [0xEE#8]) := by decide
theorem test_decode_powerOn : decode [0x10#8, 0x00#8, 0xF4#8, 0x24#8, 0x00#8, 0xEE#8] = .ok (.powerOn 16000000#32, [0xEE#8]) := by decide
theorem test_decode_powerOff : decode [0x11#8, 0xEE#8] = .ok (.powerOff, [0xEE#8]) := by decide
theorem test_decode_configureRx : decode [0x12#8, 0x00#8, 0x00#8, 0x09#8, 0x60#8, 0x00#8, 0x00#8, 0x00#8, 0x01#8, 0x00#8, 0x00#8, 0x00#8, 0x08#8, 0x00#8, 0x00#8, 0x00#8, 0x01#8, 0x1A#8, 0x0C#8, 0x17#8, 0x40#8, 0x01#8, 0xEE#8] = .ok (.configureRx ⟨2400#32, 1#32⟩ ⟨8#32, 1#32⟩ 437000000#32 1#8, [0xEE#8]) := by decide
theorem test_decode_configureTx : decode [0x13#8, 0x00#8, 0x00#8, 0x09#8, 0x60#8, 0x00#8, 0x00#8, 0x00#8, 0x01#8, 0x00#8, 0x00#8, 0x00#8, 0x01#8, 0x00#8, 0x00#8, 0x00#8, 0x02#8, 0x1A#8, 0x0C#8, 0x17#8, 0x40#8, 0xEE#8] = .ok (.configureTx ⟨2400#32, 1#32⟩ ⟨1#32, 2#32⟩ 437000000#32, [0xEE#8]) := by decide
theorem test_decode_setRxMode : decode [0x14#8, 0xEE#8] = .ok (.setRxMode, [0xEE#8]) := by decide
theorem test_decode_setTxMode : decode [0x15#8, 0xEE#8] = .ok (.setTxMode, [0xEE#8]) := by decide
theorem test_decode_setSyncWord : decode [0x16#8, 0x1A#8, 0xCF#8, 0xFC#8, 0x1D#8, 0x20#8, 0x01#8, 0xEE#8] = .ok (.setSyncWord 0x1ACFFC1D#32 32#8 1#8, [0xEE#8]) := by decide
theorem test_decode_enableAfc : decode [0x17#8, 0x00#8, 0x00#8, 0x00#8, 0x64#8, 0x00#8, 0x00#8, 0x00#8, 0x07#8, 0x00#8, 0x00#8, 0x00#8, 0x03#8, 0xEE#8] = .ok (.enableAfc 100#32 7#32 3#32, [0xEE#8]) := by decide
theorem test_decode_disableAfc : decode [0x18#8, 0xEE#8] = .ok (.disableAfc, [0xEE#8]) := by decide
theorem test_decode_readRssi : decode [0x19#8, 0xEE#8] = .ok (.readRssi, [0xEE#8]) := by decide
theorem test_decode_readAfcOffset : decode [0x1A#8, 0xEE#8] = .ok (.readAfcOffset, [0xEE#8]) := by decide
theorem test_decode_readTemperature : decode [0x1B#8, 0xEE#8] = .ok (.readTemperature, [0xEE#8]) := by decide
theorem test_decode_readSupplyVoltage : decode [0x1C#8, 0xEE#8] = .ok (.readSupplyVoltage, [0xEE#8]) := by decide
theorem test_decode_readChipVersion : decode [0x1D#8, 0xEE#8] = .ok (.readChipVersion, [0xEE#8]) := by decide
theorem test_decode_reconfigure : decode [0x1E#8, 0xEE#8] = .ok (.reconfigure, [0xEE#8]) := by decide
theorem test_decode_regWrite : decode [0x1F#8, 0x00#8, 0x00#8, 0xA5#8, 0xC7#8, 0xEE#8] = .ok (.regWrite 0x0000A5C7#32, [0xEE#8]) := by decide
theorem test_decode_regRead : decode [0x20#8, 0x27#8, 0xEE#8] = .ok (.regRead 7#5, [0xEE#8]) := by decide
theorem test_decode_scrGenerate : decode [0x30#8, 0x01#8, 0x00#8, 0xEE#8] = .ok (.scrGenerate 256#16, [0xEE#8]) := by decide
theorem test_decode_scrApply : decode [0x31#8, 0x00#8, 0x02#8, 0x00#8, 0x01#8, 0x00#8, 0x03#8, 0xFF#8, 0x48#8, 0x0E#8, 0xEE#8] = .ok (.scrApply [0x00#8, 0x01#8] [0xFF#8, 0x48#8, 0x0E#8], [0xEE#8]) := by decide
theorem test_decode_csCheck : decode [0x40#8, 0xEE#8] = .ok (.csCheck, [0xEE#8]) := by decide
theorem test_decode_txStart : decode [0x41#8, 0xEE#8] = .ok (.txStart, [0xEE#8]) := by decide
theorem test_decode_rxDrainBegin : decode [0x42#8, 0xEE#8] = .ok (.rxDrainBegin, [0xEE#8]) := by decide
theorem test_decode_rxDrainEnd : decode [0x43#8, 0xEE#8] = .ok (.rxDrainEnd, [0xEE#8]) := by decide
theorem test_decode_configGet : decode [0x50#8, 0x11#8, 0xEE#8] = .ok (.configGet 0x11#8, [0xEE#8]) := by decide
theorem test_decode_configSet : decode [0x51#8, 0x04#8, 0xFF#8, 0xFF#8, 0xFF#8, 0x9C#8, 0x00#8, 0x00#8, 0x00#8, 0x01#8, 0xEE#8] = .ok (.configSet 0x04#8 (.rat ⟨-100#32, 1#32⟩), [0xEE#8]) := by decide
theorem test_decode_configSet_u8 : decode [0x51#8, 0x06#8, 0x01#8, 0xEE#8] = .ok (.configSet 0x06#8 (.u8 0x01#8), [0xEE#8]) := by decide
theorem test_decode_configSet_u32 : decode [0x51#8, 0x10#8, 0x01#8, 0x02#8, 0x03#8, 0x04#8, 0xEE#8] = .ok (.configSet 0x10#8 (.u32 0x01020304#32), [0xEE#8]) := by decide
theorem test_decode_configSet_absent : decode [0x51#8, 0x11#8, 0xEE#8] = .ok (.configSet 0x11#8 .absent, [0xEE#8]) := by decide
theorem test_decode_serialGet : decode [0x52#8, 0xEE#8] = .ok (.serialGet, [0xEE#8]) := by decide
theorem test_decode_serialSet : decode [0x53#8, 0x00#8, 0xC0#8, 0xFF#8, 0xEE#8, 0xEE#8] = .ok (.serialSet 0x00C0FFEE#32, [0xEE#8]) := by decide
theorem test_decode_fwRevGet : decode [0x54#8, 0xEE#8] = .ok (.fwRevGet, [0xEE#8]) := by decide
theorem test_decode_softReset : decode [0x55#8, 0xEE#8] = .ok (.softReset, [0xEE#8]) := by decide
theorem test_decode_bootloaderEnter : decode [0x56#8, 0xEE#8] = .ok (.bootloaderEnter, [0xEE#8]) := by decide
theorem test_decode_evSyncDetect : decode [0xE0#8, 0xEE#8] = .ok (.evSyncDetect, [0xEE#8]) := by decide
theorem test_decode_evByteClock : decode [0xE1#8, 0x5A#8, 0xEE#8] = .ok (.evByteClock 0x5A#8, [0xEE#8]) := by decide
theorem test_decode_evPowerUpReset : decode [0xE2#8, 0xEE#8] = .ok (.evPowerUpReset, [0xEE#8]) := by decide
/-- R109: bytes that end before the last operand, and an opcode between two assigned ones. -/
theorem test_decode_refusals : decode [0x10#8, 0x00#8, 0xF4#8, 0x24#8] = .error .truncated ∧ decode [0x31#8, 0x00#8, 0x02#8, 0xAB#8] = .error .truncated
    ∧ decode [0x21#8, 0x00#8] = .error (.unassigned 0x21#8) ∧ decode [] = .error .truncated := by decide

/-- The opcode table's numbering: the rows of CONFIGURE_RX, SCR_APPLY (no operand bits given: two empty fields) and EV_BYTE_CLOCK. -/
theorem test_table_words : decodeTableWord 176 0x12 = some (.configureRx ⟨0#32, 0#32⟩ ⟨0#32, 0#32⟩ 0#32 0#8)
    ∧ decodeTableWord 8 0x31 = some (.scrApply [] []) ∧ decodeTableWord 16 0x5AE1 = some (.evByteClock 0x5A#8) ∧ decodeTableWord 8 0x02 = none := by decide

/-- The very next step from reset runs the word's instruction. -/
theorem test_withFetchWord_runs : (match step (State.reset.withFetchWord 8 0x11) with | .next t => t.reply | _ => none) = some ⟨.ok, none⟩ := rfl

/-! ### Assembler syntax and pseudo-commands (R101, R122) -/

theorem test_assembly : assembly (.evByteClock 0x5A#8) = "EV_BYTE_CLOCK(0x5A)" ∧ assembly (.configSet 0x04#8 (.rat ⟨-100#32, 1#32⟩)) = "CONFIG_SET 4, -100/1" := by
  decide +kernel

theorem test_expand_whiten : expand Config.testInstance (State.resetOf Config.testInstance) (.whiten [0x00#8, 0x01#8]) =
    [.scrGenerate 2#16, .scrApply [0x00#8, 0x01#8] [0xFF#8, 0x48#8]] := by decide

/-! ### Single steps under TI -/

/-- TI, the test instance of `95_test_vectors.md` section 2. -/
abbrev ti : Config := Config.testInstance

/-- The reset state under TI. -/
abbrev tiReset : State := State.resetOf ti

/-- The state a command leaves, or `s` itself where it faults. -/
def after (r : Except Fault State) (s : State) : State :=
  match r with
  | .ok t => t
  | .error _ => s

/-- The fault a command raises. -/
def faultOf (r : Except Fault State) : Option Fault :=
  match r with
  | .ok _ => none
  | .error f => some f

/-- A plan, for tests that need one to be there; its values are those of T-PL1. -/
def somePlan : ChannelPlan where
  desired := ⟨2400, 8, 437000000⟩
  real := ⟨31250 / 13, 8, 437000000, 9644⟩
  derived := ⟨79, 10, 1, 208, 400, 1, false, true, [0], 0⟩

/-- An image with a value staged at every address. -/
def fullImage (p : Nat) : Image := Vector.ofFn fun i : Fin 16 => some (staged (BitVec.ofNat 4 i.val) p)

/-- TI in Receiving, both directions planned and staged with payload `p` (RX) and `q` (TX). -/
def tiReceiving (p q : Nat) : State :=
  { tiReset with mode := .receiving, ce := true, planRx := some somePlan, planTx := some somePlan, stageRx := fullImage p, stageTx := fullImage q, syncArmed := true }

/-- T-PL1 (`95_test_vectors.md`; R154's example). -/
theorem test_planClocks_TPL1 : (planClocks ti 16000000 2400 8).map (fun r => [r.dev, r.k, r.demClkDivide, r.cdrClkDivide, r.discBw, r.postDemodBw]) =
    some [79, 10, 1, 208, 400, 1] ∧ (planClocks ti 16000000 2400 8).map (fun r => r.realDataRate) = some (31250 / 13) := by decide +kernel

/-- R154: a rate so high that every cdr rounds to 0. -/
theorem test_planClocks_fails : (after (planClocksCommand ti 16000000#32 ⟨2000000#32, 1#32⟩ ⟨1#32, 2#32⟩ tiReset) tiReset).reply = some ⟨.planFail, none⟩ := by
  decide +kernel

/-- R171's example: SetCE(1) and three writes. -/
theorem test_powerOn_history : (after (powerOnCommand ti 16000000#32 tiReset) tiReset).history =
    [.setCe true, .busWrite 0x00001001#32, .busWrite 0x00002004#32, .busWrite 0x00003006#32] := by decide

theorem test_powerOn_zero_faults : faultOf (powerOnCommand ti 0#32 tiReset) = some .range := by decide

/-- R172: the front buffer's counters are cleared mid-frame, and the switch comes before the chip enable. -/
theorem test_powerOff_midFrame :
    let s := setFrontBuf { frontBuf (tiReceiving 1 1) with size := 3, progress := 2 } { tiReceiving 1 1 with rxState := .body, trsw := true }
    ((frontBuf (after (powerOffCommand s) s)).progress, (after (powerOffCommand s) s).history) = (0, [.setTr false, .setCe false]) := by decide +kernel

/-- R175: REG_CLK (address 3) is staged with dem 1 and cdr 208: payload 1 + 16 · 208, the address in the low bits. -/
theorem test_configureRx_stages : imageAt (after (configureRxCommand ti ⟨2400#32, 1#32⟩ ⟨8#32, 1#32⟩ 437000000#32 5#8 tiReset) tiReset).stageRx 3#4 =
    some (BitVec.ofNat 32 ((1 + 16 * 208) * 16 + 3)) := by decide +kernel

/-- R175: the class is masked to IFBW_BITS (2 in TI). -/
theorem test_configureRx_masks_ifbw :
    ((after (configureRxCommand ti ⟨2400#32, 1#32⟩ ⟨8#32, 1#32⟩ 437000000#32 5#8 tiReset) tiReset).planRx.map fun p => p.derived.ifBwClass) = some 1 := by decide +kernel

/-- R176: the PA is staged from CFG.PA_POWER (63). -/
theorem test_configureTx_stages_pa : imageAt (after (configureTxCommand ti ⟨2400#32, 1#32⟩ ⟨8#32, 1#32⟩ 437000000#32 tiReset) tiReset).stageTx 2#4 =
    some 0x000003F2#32 := by decide +kernel

theorem test_configureTx_zero_freq_faults : faultOf (configureTxCommand ti ⟨2400#32, 1#32⟩ ⟨8#32, 1#32⟩ 0#32 tiReset) = some .range := by decide +kernel

/-- R178's example: from Receiving with equal clocks and a cold PA: the PA, no REG_CLK, the switch, then the PLL. -/
theorem test_setTxMode_skips_clock : (after (setTxModeCommand ti (tiReceiving 7 7)) tiReset).history =
    [.busWrite 0x00000072#32, .setTr true, .busWrite 0x00000070#32] := by decide +kernel

theorem test_setTxMode_writes_clock : (after (setTxModeCommand ti (tiReceiving 8 7)) tiReset).history =
    [.busWrite 0x00000072#32, .busWrite 0x00000073#32, .setTr true, .busWrite 0x00000070#32] := by decide +kernel

/-- R179's example: from Idle the whole RX sequence, the switch after the PLL. -/
theorem test_setRxMode_from_idle : (after (setRxModeCommand ti { tiReceiving 7 7 with mode := .idle }) tiReset).history =
    [.busWrite 0x00000073#32, .busWrite 0x00000070#32, .setTr false] := by decide +kernel

/-- R180's example. -/
theorem test_setSyncWord : (after (setSyncWordCommand ti 0x1ACFFC1D#32 32#8 1#8 (tiReceiving 1 1)) tiReset).syncActive = ⟨0x1ACFFC1D, 32, 1⟩ := by decide +kernel

/-- R181's and R182's examples: the constants are packed with the on bit (1 + 2·100 + 512·7 + 8192·3), then without it. -/
theorem test_enableAfc : (after (enableAfcCommand ti 100#32 7#32 3#32 (tiReceiving 1 1)) tiReset).history = [.busWrite (staged 10#4 28361)] := by decide +kernel

theorem test_disableAfc : (after (disableAfcCommand ti { tiReceiving 1 1 with afcActive := some ⟨100, 7, 3⟩ }) tiReset).history = [.busWrite (staged 10#4 28360)] := by
  decide +kernel

/-- R183: TI reads 0x78, whose conversion is -120. -/
theorem test_readRssi : (after (readRssiCommand ti (tiReceiving 1 1)) tiReset).reply = some ⟨.ok, some (.rat (-120))⟩ := by decide +kernel

theorem test_readAfcOffset : (after (readAfcOffsetCommand ti (tiReceiving 1 1)) tiReset).reply = some ⟨.ok, some (.rat 120)⟩ := by decide +kernel

theorem test_readTemperature : (after (readTemperatureCommand ti (tiReceiving 1 1)) tiReset).history = [.busRead 0x08#5 0x78#32] := by decide +kernel

theorem test_readSupplyVoltage : (after (readSupplyVoltageCommand ti (tiReceiving 1 1)) tiReset).reply = some ⟨.ok, some (.rat (15 / 8))⟩ := by decide +kernel

theorem test_readChipVersion : (after (readChipVersionCommand ti (tiReceiving 1 1)) tiReset).reply = some ⟨.ok, some (.nat 8)⟩ := by decide +kernel

/-- R188's example: the defaults plan, so the block is receiving and armed. -/
theorem test_reconfigure : (after (reconfigureCommand ti { tiReset with mode := .idle, ce := true }) tiReset).mode = .receiving
    ∧ (after (reconfigureCommand ti { tiReset with mode := .idle, ce := true }) tiReset).syncArmed = true := by decide +kernel

/-- R189's example: the word goes out unchanged, addressed to register 7. -/
theorem test_regWrite : (after (regWriteCommand 0x0000A5C7#32 (tiReceiving 1 1)) tiReset).history = [.busWrite 0x0000A5C7#32] ∧ addrOf 0x0000A5C7#32 = 7#4 := by
  decide +kernel

theorem test_regRead : (after (regReadCommand ti 7#5 (tiReceiving 1 1)) tiReset).history = [.busRead 7#5 0x78#32] := by decide +kernel

/-- R113's example: the bytes on the wire. -/
theorem test_wire_order : wireBytes 0x12345679#32 = [0x12#8, 0x34#8, 0x56#8, 0x79#8] ∧ (wireBits 0x12345679#32).head? = some false
    ∧ (wireBits 0x12345679#32).getLast? = some true := by decide

/-- R226's example (T-SC1). -/
theorem test_scrGenerate : (after (scrGenerateCommand 4#16 tiReset) tiReset).reply = some ⟨.ok, some (.bytes [0xFF#8, 0x48#8, 0x0E#8, 0xC0#8])⟩ := by decide +kernel

/-- R227's example. -/
theorem test_scrApply : (after (scrApplyCommand [0x00#8, 0x01#8, 0xFF#8, 0x55#8] [0xFF#8, 0x48#8, 0x0E#8, 0xC0#8] tiReset) tiReset).reply =
    some ⟨.ok, some (.bytes [0xFF#8, 0x49#8, 0xF1#8, 0x95#8])⟩ := by decide +kernel

theorem test_scrApply_short : faultOf (scrApplyCommand [0x00#8] [] tiReset) = some .seqShort := by decide

/-- R270: -120 is below -100 and the counter is 2: denied, and 1 is left. -/
theorem test_csCheck_quarantine : (after (csCheckCommand ti { tiReceiving 1 1 with quarantine := 2 }) tiReset).quarantine = 1
    ∧ (after (csCheckCommand ti { tiReceiving 1 1 with quarantine := 2 }) tiReset).reply = some ⟨.denied, some (.bool false)⟩ := by decide +kernel

/-- R270: a reading equal to the threshold is not above it. -/
theorem test_csCheck_strict : (after (csCheckCommand ti { tiReceiving 1 1 with cfg := { ti.defaults with csThreshold := -120 } }) tiReset).reply =
    some ⟨.ok, some (.bool true)⟩ := by decide +kernel

/-- TI with a host that has a frame of three bytes queued. -/
def tiHost : Config := { ti with draws := { ti.draws with hostPull := fun _ => some [0x11#8, 0x22#8, 0x33#8] } }

/-- R271's example: FRAME_LEN_SHORT = 3 and two training bytes. -/
theorem test_txStart : (after (txStartCommand tiHost (tiReceiving 7 7)) tiReset).txState = .training
    ∧ (after (txStartCommand tiHost (tiReceiving 7 7)) tiReset).mode = .transmitting
    ∧ (frontBuf (after (txStartCommand tiHost (tiReceiving 7 7)) tiReset)).payload = [(0, 0x11#8), (1, 0x22#8), (2, 0x33#8)] := by decide +kernel

/-- R271, R335: without a TX plan the frame pulled cannot be sent. -/
theorem test_txStart_noPlan : faultOf (txStartCommand tiHost { tiReceiving 7 7 with planTx := none, stageTx := tiReset.stageTx }) = some .noPlan := by decide +kernel

theorem test_txStart_busy : (after (txStartCommand tiHost { tiReceiving 7 7 with mode := .idle }) tiReset).reply = some ⟨.busy, none⟩ := by decide +kernel

/-- A back buffer with a received body of one byte. -/
def readyBuffer : FrameBuffer := { FrameBuffer.cleared 0 0 with size := 1, progress := 1, flags := 0x01#8, payload := [(0, 0xAB#8)] }

/-- R265's example: the record has flags 0x01 and the body byte. -/
theorem test_rxDrainBegin : (after (rxDrainBeginCommand ti (setBackBuf readyBuffer (tiReceiving 1 1))) tiReset).reply =
    some ⟨.ok, some (.record ⟨1, -120, 120, 0x01#8, [0xAB#8]⟩)⟩ := by decide +kernel

/-- R265: in Off the chip is not asked. -/
theorem test_rxDrainBegin_off : (after (rxDrainBeginCommand ti (setBackBuf readyBuffer tiReset)) tiReset).history = [.hostPush ⟨1, 0, 0, 0x01#8, [0xAB#8]⟩] := by
  decide +kernel

theorem test_rxDrainEnd : (backBuf (after (rxDrainEndCommand { setBackBuf readyBuffer tiReset with drainPending := true }) tiReset)).flags = 0x00#8 := by decide +kernel

/-- R301's example: the TX plan failed, the RX plan did not. -/
theorem test_configGet_status : (after (configGetCommand 0x11#8 { tiReset with planErrorTx := true }) tiReset).reply = some ⟨.ok, some (.value (.byte 0x02#8))⟩ := by
  decide +kernel

/-- R300's example. -/
theorem test_configSet_threshold : (after (configSetCommand 0x04#8 (.rat ⟨-100#32, 1#32⟩) tiReset) tiReset).cfg.csThreshold = -100 := by decide +kernel

/-- R104: of the AFC_ENABLE byte only bit 0 is stored. -/
theorem test_configSet_afc_bit : (after (configSetCommand 0x06#8 (.u8 0xFE#8) tiReset) tiReset).cfg.afcEnable = false := by decide +kernel

theorem test_serialSet_survives_reset : (after (evPowerUpReset ti (after (serialSetCommand 0x00C0FFEE#32 tiReset) tiReset)) tiReset).serial = 0x00C0FFEE#32 := by decide +kernel

theorem test_serialGet : (after (serialGetCommand tiReset) tiReset).reply = some ⟨.ok, some (.word 0xFFFFFFFF#32)⟩ := by decide +kernel

theorem test_fwRevGet : (after (fwRevGetCommand ti tiReset) tiReset).reply = some ⟨.ok, some (.text "TI-1")⟩ := by decide +kernel

/-- R371: the outputs are driven and recorded. -/
theorem test_softReset : (after (softResetCommand ti { tiReceiving 1 1 with trsw := true }) tiReset).history = [.setTr false, .setCe false]
    ∧ (after (softResetCommand ti { tiReceiving 1 1 with trsw := true }) tiReset).mode = .off := by decide +kernel

theorem test_bootloaderEnter : (match execBootloaderEnter tiReset with | .refused r => some r | _ => none) = some Refusal.bootloader := rfl

/-- R250's example: P = 2 in TI. -/
theorem test_evSyncDetect : (frontBuf (after (evSyncDetect ti (tiReceiving 1 1)) tiReset)).size = 3 ∧ (after (evSyncDetect ti (tiReceiving 1 1)) tiReset).rxState = .armed := by
  decide +kernel

/-- An RX frame in progress: `progress` bytes of the current phase taken. -/
def tiFrame (st : RxState) (progress size : Nat) : State :=
  setFrontBuf { frontBuf (tiReceiving 1 1) with progress := progress, size := size } { tiReceiving 1 1 with syncArmed := false, byteclkEn := true, rxState := st }

/-- R251's example: 0x5B against 0x5A is one error. -/
theorem test_evByteClock_prefix : (after (evByteClock ti 0x5B#8 (tiFrame .armed 0 3)) tiReset).rxErr = 1 := by decide +kernel

/-- R253's example: 0xA7 is nearer to 0xA6. -/
theorem test_evByteClock_marker : (frontBuf (after (evByteClock ti 0xA7#8 (tiFrame .preamble 2 3)) tiReset)).size = 3
    ∧ (after (evByteClock ti 0xA7#8 (tiFrame .preamble 2 3)) tiReset).ftype = .short := by decide +kernel

/-- R255's example: the last body byte swaps the buffers. -/
theorem test_evByteClock_completes : (backBuf (after (evByteClock ti 0x77#8 (tiFrame .body 2 3)) tiReset)).flags = 0x01#8
    ∧ (after (evByteClock ti 0x77#8 (tiFrame .body 2 3)) tiReset).front = 1 := by decide +kernel

/-- R370: a power cycle records nothing and keeps the history. -/
theorem test_evPowerUpReset : (after (evPowerUpReset ti (record .syncEdge (tiReceiving 1 1))) tiReset).history = [.syncEdge]
    ∧ (after (evPowerUpReset ti (record .syncEdge (tiReceiving 1 1))) tiReset).planRx = none := by decide +kernel

/-! ### A state and operands for the hypotheses of each statement -/

/-- Every address is staged in a full image, at itself. -/
theorem imageAt_fullImage (p : Nat) (a : RegAddr) : imageAt (fullImage p) a = some (staged a p) := by
  simp [imageAt, fullImage]

theorem staged_fullImage (p : Nat) (l : List RegAddr) : Staged (fullImage p) l := fun a _ => by simp [imageAt_fullImage]

/-- The block in Receiving, planned and staged for both directions. -/
def receiving : State :=
  { State.reset with mode := .receiving, ce := true, planRx := some somePlan, planTx := some somePlan, stageRx := fullImage 1, stageTx := fullImage 1, syncArmed := true }

/-- The same right after the sync edge. -/
def armed : State :=
  setFrontBuf { frontBuf receiving with size := Config.actual.rxPrefixLen + 1 } { receiving with syncArmed := false, byteclkEn := true, rxState := .armed }

theorem frontBuf_receiving : frontBuf receiving = FrameBuffer.cleared 0 0 := rfl

theorem backBuf_receiving : backBuf receiving = FrameBuffer.cleared 0 0 := rfl

theorem frontBuf_armed : frontBuf armed = { FrameBuffer.cleared 0 0 with size := Config.actual.rxPrefixLen + 1 } := rfl

theorem backBuf_armed : backBuf armed = FrameBuffer.cleared 0 0 := rfl

theorem bufferGood_cleared (n : Nat) : BufferGood Config.actual { FrameBuffer.cleared 0 0 with size := n } := by
  constructor <;> simp [FrameBuffer.cleared, FrameBuffer.ready]

theorem fullImage_addr : ∀ a v, imageAt (fullImage 1) a = some v → addrOf v = a := by
  intro a v h
  rw [imageAt_fullImage] at h
  cases h
  simp

theorem sys_empty : ∀ a v, imageAt State.reset.sys a = some v → addrOf v = a := by
  intro a v h
  simp [State.reset, State.resetOf] at h

theorem somePlan_inRange : PlanInRange somePlan := by
  constructor <;> decide

theorem witness_good_receiving : Good Config.actual receiving := by
  constructor
  · constructor
    case inv9 =>
      rintro a v (h | h | h)
      · exact fullImage_addr a v h
      · exact fullImage_addr a v h
      · exact sys_empty a v h
    all_goals simp [receiving, frontBuf, FrameBuffer.ready, State.reset, State.resetOf, FrameBuffer.cleared]
  · constructor
    case buf_front => exact bufferGood_cleared 0
    case buf_back => exact bufferGood_cleared 0
    case xtal => exact Config.actual.valid.xtal_pos
    case staged_rx => exact fun _ => staged_fullImage 1 _
    case staged_tx => exact fun _ => ⟨staged_fullImage 1 _, by simp [receiving, imageAt_fullImage]⟩
    case plan_rx => intro p h; cases h; exact somePlan_inRange
    case plan_tx => intro p h; cases h; exact somePlan_inRange
    all_goals simp [receiving, State.reset, State.resetOf]

theorem witness_good_armed : Good Config.actual armed := by
  constructor
  · constructor
    case inv9 =>
      rintro a v (h | h | h)
      · exact fullImage_addr a v h
      · exact fullImage_addr a v h
      · exact sys_empty a v h
    all_goals simp [armed, receiving, setFrontBuf, frontBuf, FrameBuffer.ready, State.reset, State.resetOf, FrameBuffer.cleared]
  · constructor
    case buf_front => exact bufferGood_cleared _
    case buf_back => exact bufferGood_cleared 0
    case xtal => exact Config.actual.valid.xtal_pos
    case staged_rx => exact fun _ => staged_fullImage 1 _
    case staged_tx => exact fun _ => ⟨staged_fullImage 1 _, by simp [armed, receiving, setFrontBuf, imageAt_fullImage]⟩
    case plan_rx => intro p h; cases h; exact somePlan_inRange
    case plan_tx => intro p h; cases h; exact somePlan_inRange
    case rx_armed => exact fun _ => ⟨rfl, rfl⟩
    all_goals simp [armed, receiving, setFrontBuf, State.reset, State.resetOf]

/-- The one buffer size every parameter record has room for. -/
theorem one_le_max : 1 ≤ Config.actual.maxPayload := le_trans Config.actual.valid.short_pos Config.actual.valid.short_le

/-- A plan exists at the settings of T-PL1, and none at a rate no divider reaches. -/
theorem witness_planned : ∃ r, planClocks Config.actual 16000000 2400 8 = some r := by
  have h : (planClocks Config.actual 16000000 2400 8).isSome = true := by decide +kernel
  exact Option.isSome_iff_exists.mp h

theorem witness_unplanned : planClocks Config.actual 16000000 2000000 (1 / 2) = none := by
  have h : (planClocks Config.actual 16000000 2000000 (1 / 2)).isNone = true := by decide +kernel
  exact Option.isNone_iff_eq_none.mp h

/-- 2400/1, 8/1, 0/1 as operands. -/
def q2400 : RatArg := ⟨2400#32, 1#32⟩

def q8 : RatArg := ⟨8#32, 1#32⟩

def q0 : RatArg := ⟨0#32, 1#32⟩

theorem operands_positive : q2400.wellFormed = true ∧ q8.wellFormed = true ∧ 0 < ratValue q2400 ∧ 0 < ratValue q8 := by decide +kernel

theorem operand_zero : q0.wellFormed = true ∧ ratValue q0 ≤ 0 := by decide +kernel

theorem witness_DecodeOfEncodeIsIdentity :
    (Instr.planClocks 1#32 q2400 q8).wellFormed = true ∧ (Instr.configSet 0x10#8 (.u32 0xFFFFFFFF#32)).wellFormed = true ∧ (Instr.scrApply [] [0#8]).wellFormed = true := by decide

theorem witness_EncodeOfDecodeIsIdentity : decode [0x20#8, 0xE7#8, 0x11#8] = .ok (.regRead 7#5, [0x11#8]) ∧ decode [0x53#8, 1#8, 2#8, 3#8, 4#8] = .ok (.serialSet 0x01020304#32, []) := by decide

/-- The reset state with one packet delivered. -/
def delivered (source : Source) (bytes : List Byte) : State := { State.reset with inputs := [⟨source, bytes⟩] }

theorem witness_StepRunsTheDecodedInput : ∀ source bytes, (delivered source bytes).faults = [] ∧ (delivered source bytes).refused = false
    ∧ (delivered source bytes).inputs = ⟨source, bytes⟩ :: [] := fun _ _ => ⟨rfl, rfl, rfl⟩

/-- Bytes for each case of that statement: run, an event opcode of the host, unassigned, truncated, and an event. -/
theorem witness_StepRunsTheDecodedInput_cases : decode [0x41#8, 0x11#8] = .ok (.txStart, [0x11#8]) ∧ Instr.txStart.isEvent = false
    ∧ decode [0xE2#8] = .ok (.evPowerUpReset, []) ∧ Instr.evPowerUpReset.isEvent = true ∧ decode [0xFF#8] = .error (.unassigned 0xFF#8)
    ∧ decode [0x53#8] = .error .truncated := by decide

theorem witness_FaultedAndRefusedStatesAreStuck : (raiseFault .range State.reset).faults ≠ [] ∧ (markRefused State.reset).refused = true
    ∧ step (delivered .host [0x31#8, 0#8, 1#8, 0#8, 0#8, 0#8]) = .fault .seqShort ∧ step (delivered .host [0x56#8]) = .refused .bootloader := by
  refine ⟨by simp [raiseFault], rfl, rfl, rfl⟩

theorem witness_BootloaderEnterIsRefused : (delivered .host [0x56#8]).faults = [] ∧ (delivered .host [0x56#8]).inputs = ⟨.host, [0x56#8]⟩ :: [] := ⟨rfl, rfl⟩

theorem witness_ResetsGiveTheResetValues : (∃ t, exec .evPowerUpReset receiving = .next t) ∧ ∃ t, exec .softReset receiving = .next t := ⟨⟨_, rfl⟩, ⟨_, rfl⟩⟩

theorem witness_OnlySerialSetWritesTheSerial : (∃ t, exec (.serialSet 1#32) receiving = .next t) ∧ ∃ t, exec .serialGet receiving = .next t := ⟨⟨_, rfl⟩, ⟨_, rfl⟩⟩

theorem witness_OnlyConfigSetAndResetsWriteTheConfiguration : ∃ t, exec (.configSet 0x0B#8 (.u32 5#32)) receiving = .next t := ⟨_, rfl⟩

theorem witness_ConfigSetThenGetReturnsTheValue : (ConfigArg.u32 5#32).wellFormed 0x10#8 = true ∧ (0x10#8 : Byte) ≤ 0x10#8
    ∧ (ConfigArg.u8 1#8).wellFormed 0x06#8 = true ∧ ConfigArg.absent.wellFormed 0x10#8 = false ∧ (0x10#8 : Byte) < 0x11#8 := by decide

theorem witness_ConfigGetReturnsFieldsAndStatus : (0x10#8 : Byte) ≤ 0x10#8 ∧ (0x11#8 : Byte) < 0x12#8 := by decide

theorem witness_PlanClocksAnswersThePlan : q2400.wellFormed = true ∧ q8.wellFormed = true ∧ (1#32 : Word) ≠ 0#32 ∧ 0 < ratValue q2400 ∧ 0 < ratValue q8
    ∧ q0.wellFormed = true ∧ ratValue q0 ≤ 0 ∧ RatArg.wellFormed ⟨1#32, 0#32⟩ = false := by decide +kernel

theorem witness_PlannerPicksTheBestDivider : (0 < 16000000 ∧ (0 : Rat) < 2400 ∧ (0 : Rat) < 8 ∧ ∃ r, planClocks Config.actual 16000000 2400 8 = some r)
    ∧ (0 : Rat) < 2000000 ∧ (0 : Rat) < 1 / 2 ∧ planClocks Config.actual 16000000 2000000 (1 / 2) = none :=
  ⟨⟨by norm_num, by norm_num, by norm_num, witness_planned⟩, by norm_num, by norm_num, witness_unplanned⟩

theorem witness_PlannerStaysInRange : ∃ r, planClocks Config.actual 16000000 2400 8 = some r := witness_planned

theorem witness_PlannerRateIsAccurate : (0 : Rat) < 2400 ∧ ∃ r, planClocks Config.actual 16000000 2400 8 = some r := ⟨by norm_num, witness_planned⟩

theorem witness_PostDemodTableRoundsPi : 1 ≤ 1 ∧ 1 ≤ 255 ∧ 255 ≤ 255 ∧ |Real.pi - Real.pi| < 1 / 100000 := by
  refine ⟨le_refl _, by norm_num, le_refl _, by norm_num⟩

theorem witness_ScramblerCommandsAnswerBytes : ([1#8] : List Byte).length ≤ [2#8].length ∧ ([] : List Byte).length < [1#8].length := by decide

theorem witness_ScramblerApplyIsSelfInverse : ([1#8, 2#8] : List Byte).length ≤ [3#8, 4#8].length := by decide

theorem witness_ScramblerStreamAndPacking : (7 < 8) ∧ (0 < 1) := by decide

theorem witness_ScramblerSequenceHasPeriod255 : (4 ≤ 4) ∧ (0 < 254 ∧ 254 < 255) ∧ (0 + 255 < 256) := by decide

theorem not_midFrame_receiving : ¬ midFrame receiving := by simp [midFrame, receiving, State.reset, State.resetOf]

theorem midFrame_armed : midFrame armed := .inl (by simp [armed, setFrontBuf])

theorem witness_PowerOnBringsTheChipUp : (1#32 : Word) ≠ 0#32 ∧ ¬ midFrame receiving ∧ midFrame armed := ⟨by decide, not_midFrame_receiving, midFrame_armed⟩

theorem witness_PowerOffCompletesInEveryState : State.reset.mode = .off ∧ armed.mode ≠ .off := ⟨rfl, by simp [armed, setFrontBuf, receiving]⟩

theorem witness_ConfigureRxStagesThePlan : q2400.wellFormed = true ∧ q8.wellFormed = true ∧ 0 < receiving.xtalHz ∧ 0 < ratValue q2400 ∧ 0 < ratValue q8 ∧ (1#32 : Word) ≠ 0#32
    ∧ q0.wellFormed = true ∧ ratValue q0 ≤ 0 ∧ RatArg.wellFormed ⟨1#32, 0#32⟩ = false :=
  ⟨operands_positive.1, operands_positive.2.1, Config.actual.valid.xtal_pos, operands_positive.2.2.1, operands_positive.2.2.2, by decide, operand_zero.1, operand_zero.2, rfl⟩

theorem witness_ConfigureTxStagesThePlanAndThePa : q2400.wellFormed = true ∧ q8.wellFormed = true ∧ 0 < receiving.xtalHz ∧ 0 < ratValue q2400 ∧ 0 < ratValue q8
    ∧ (1#32 : Word) ≠ 0#32 ∧ q0.wellFormed = true ∧ ratValue q0 ≤ 0 ∧ RatArg.wellFormed ⟨1#32, 0#32⟩ = false := witness_ConfigureRxStagesThePlan

theorem receiving_on : receiving.mode ≠ .off := by simp [receiving]

theorem armed_on : armed.mode ≠ .off := by simp [armed, setFrontBuf, receiving]

theorem witness_SetTxModeSwitches : (receiving.mode ≠ .off ∧ receiving.planTx ≠ none ∧ ¬ midFrame receiving ∧ Staged receiving.stageTx (Config.actual.regPa :: Config.actual.txSeq))
    ∧ State.reset.mode = .off ∧ ({ receiving with planTx := none } : State).planTx = none ∧ (armed.mode ≠ .off ∧ armed.planTx ≠ none ∧ midFrame armed) :=
  ⟨⟨receiving_on, by simp [receiving], not_midFrame_receiving, staged_fullImage 1 _⟩, rfl, rfl, armed_on, by simp [armed, setFrontBuf, receiving], midFrame_armed⟩

theorem witness_SetRxModeSwitches : (receiving.mode ≠ .off ∧ receiving.planRx ≠ none ∧ ¬ midFrame receiving ∧ Staged receiving.stageRx Config.actual.rxSeq)
    ∧ State.reset.mode = .off ∧ ({ receiving with planRx := none } : State).planRx = none ∧ (armed.mode ≠ .off ∧ armed.planRx ≠ none ∧ midFrame armed)
    ∧ (Good Config.actual receiving ∧ receiving.mode ≠ .off ∧ receiving.planRx ≠ none ∧ ¬ midFrame receiving) :=
  ⟨⟨receiving_on, by simp [receiving], not_midFrame_receiving, staged_fullImage 1 _⟩, rfl, rfl, ⟨armed_on, by simp [armed, setFrontBuf, receiving], midFrame_armed⟩,
    witness_good_receiving, receiving_on, by simp [receiving], not_midFrame_receiving⟩

/-- R72, R351: a later write decides, a readback changes nothing, and SetCE(0) loses the word; only what is written after it is held. -/
theorem test_chipRegister : chipRegister 3#4 [.busWrite 0xD013#32, .busWrite 0xAB0#32, .busRead 0x14#5 0x78#32] = some 0xD013#32
    ∧ chipRegister 3#4 [.busWrite 0xD013#32, .setCe false, .setCe true, .busWrite 0xAB0#32] = none
    ∧ chipRegister 0#4 [.busWrite 0xD013#32, .setCe false, .setCe true, .busWrite 0xAB0#32] = some 0xAB0#32 := by decide

theorem witness_TxSwitchProgramsTheChip : Good Config.actual receiving ∧ receiving.mode ≠ .off ∧ receiving.planTx ≠ none ∧ ¬ midFrame receiving
    ∧ imageAt receiving.stageRx Config.actual.regClk = imageAt receiving.stageTx Config.actual.regClk :=
  ⟨witness_good_receiving, receiving_on, by simp [receiving], not_midFrame_receiving, rfl⟩

theorem witness_SyncWordAndAfcCommandsWriteTheirRegisters : receiving.mode ≠ .off ∧ State.reset.mode = .off := ⟨receiving_on, rfl⟩

theorem witness_ReadbackAndPassthroughCommands : (receiving.mode ≠ .off ∧ ∃ word : Selector → Word, ∀ q, word q = Config.actual.draws.readback receiving.drawCount q)
    ∧ State.reset.mode = .off := ⟨⟨receiving_on, _, fun _ => rfl⟩, rfl⟩

/-- Receiving, with settings every parameter record can hold. -/
def settings : ConfigRecord := { ti.defaults with bitrate := 2400, modIndex := 8 }

theorem good_settings (x : Nat) (h : 0 < x) : Good Config.actual { receiving with cfg := settings, xtalHz := x } := by
  constructor
  · obtain ⟨h1, h2, h3, h4, h5, h6, h7, h8, h9, h10, h11⟩ := witness_good_receiving.spec
    exact ⟨h1, h2, h3, h4, h5, h6, h7, h8, h9, h10, h11⟩
  · obtain ⟨h1, h2, h3, h4, h5, h6, h7, h8, h9, h10, h11, h12, h13⟩ := witness_good_receiving.working
    exact ⟨h, h2, h3, h4, h5, h6, h7, h8, h9, h10, h11, h12, h13⟩

/-- A state RECONFIGURE completes from by its earlier RX plan, and one where the planner plans. -/
theorem witness_ReconfigureReappliesEverything :
    (∃ s : State, Good Config.actual s ∧ s.mode ≠ .off ∧ ¬ midFrame s ∧ 0 < s.cfg.bitrate ∧ 0 < s.cfg.modIndex ∧ 0 < s.cfg.rxFreq ∧ 0 < s.cfg.txFreq ∧ s.planRx ≠ none)
    ∧ ∃ s : State, Good Config.actual s ∧ s.mode ≠ .off ∧ ¬ midFrame s ∧ 0 < s.cfg.bitrate ∧ 0 < s.cfg.modIndex ∧ 0 < s.cfg.rxFreq ∧ 0 < s.cfg.txFreq
      ∧ ∃ r, planClocks Config.actual s.xtalHz s.cfg.bitrate s.cfg.modIndex = some r :=
  have g := good_settings 16000000 (by decide)
  ⟨⟨_, g, receiving_on, not_midFrame_receiving, by decide +kernel, by decide +kernel, by decide, by decide, by simp [receiving]⟩,
    _, g, receiving_on, not_midFrame_receiving, by decide +kernel, by decide +kernel, by decide, by decide, witness_planned⟩

theorem witness_ReconfigureFaultsInOrder : State.reset.mode = .off ∧ (armed.mode ≠ .off ∧ midFrame armed)
    ∧ (∃ s : State, s.mode ≠ .off ∧ ¬ midFrame s ∧ s.cfg.txFreq = 0)
    ∧ ∃ s : State, s.mode ≠ .off ∧ ¬ midFrame s ∧ 0 < s.xtalHz ∧ 0 < s.cfg.bitrate ∧ 0 < s.cfg.modIndex ∧ 0 < s.cfg.rxFreq ∧ 0 < s.cfg.txFreq
      ∧ planClocks Config.actual s.xtalHz s.cfg.bitrate s.cfg.modIndex = none ∧ s.planRx = none :=
  ⟨rfl, ⟨armed_on, midFrame_armed⟩, ⟨{ receiving with cfg := { settings with txFreq := 0 } }, receiving_on, not_midFrame_receiving, rfl⟩,
    { receiving with cfg := { settings with bitrate := 2000000, modIndex := 1 / 2 }, xtalHz := 16000000, planRx := none }, receiving_on, not_midFrame_receiving,
    by decide, by decide +kernel, by decide +kernel, by decide, by decide, witness_unplanned, rfl⟩

theorem witness_BootReachesReceiving : ∃ s : State, (16000000#32 : Word) ≠ 0#32 ∧ ¬ midFrame s ∧ 0 < s.cfg.bitrate ∧ 0 < s.cfg.modIndex ∧ 0 < s.cfg.rxFreq ∧ 0 < s.cfg.txFreq
    ∧ planClocks Config.actual (16000000#32 : Word).toNat s.cfg.bitrate s.cfg.modIndex ≠ none := by
  refine ⟨{ State.reset with cfg := settings }, by decide, not_midFrame_receiving, by decide +kernel, by decide +kernel, by decide, by decide, ?_⟩
  obtain ⟨r, hr⟩ := witness_planned
  exact fun h => by
    have : planClocks Config.actual 16000000 2400 8 = none := h
    rw [hr] at this
    cases this

theorem witness_ModeChangesFaultMidFrame : midFrame armed ∧ (1#32 : Word) ≠ 0#32 ∧ armed.mode ≠ .off ∧ armed.planRx ≠ none ∧ armed.planTx ≠ none :=
  ⟨midFrame_armed, by decide, armed_on, by simp [armed, setFrontBuf, receiving], by simp [armed, setFrontBuf, receiving]⟩

theorem witness_NoCommandCancelsAFrame : Good Config.actual armed ∧ midFrame armed ∧ (∃ t, exec .serialGet armed = .next t) := ⟨witness_good_armed, midFrame_armed, _, rfl⟩

theorem witness_ModeTransitionsAreTheListedOnes : Good Config.actual receiving ∧ ∃ t, exec .powerOff receiving = .next t := ⟨witness_good_receiving, _, rfl⟩

/-- Both halves of the statement see a switch event: POWER_OFF's is exempt, so the state is one SET_TX_MODE and SET_RX_MODE complete from. -/
theorem witness_SwitchMovesAtThePllWrite : Good Config.actual receiving ∧ Staged receiving.stageTx (Config.actual.regPa :: Config.actual.txSeq)
    ∧ Staged receiving.stageRx Config.actual.rxSeq ∧ ∃ t, exec .serialGet receiving = .next t :=
  ⟨witness_good_receiving, staged_fullImage 1 _, staged_fullImage 1 _, _, rfl⟩

theorem witness_StatusesComeFromTheListedCommands : Instr.serialGet.isEvent = false ∧ ∃ t, exec .serialGet receiving = .next t := ⟨rfl, _, rfl⟩

theorem witness_FrameTypesByMarkerAndLength : ti.frameLen .short = 3 ∧ ti.frameLen .long = 5 ∧ (4 ≠ ti.frameLen .short ∧ 4 ≠ ti.frameLen .long) := by decide

theorem witness_SyncEdgeIsTakenOrLost : receiving.syncArmed = true ∧ armed.syncArmed = false ∧ receiving.byteclkEn = false := ⟨rfl, rfl, rfl⟩

theorem witness_PrefixAndMarkerBytes : armed.byteclkEn = true ∧ armed.txState = .idle ∧ armed.rxState = .armed ∧ (frontBuf armed).progress ≤ Config.actual.rxPrefixLen :=
  ⟨rfl, rfl, rfl, Nat.zero_le _⟩

/-- The boundary: the marker's place. -/
theorem witness_PrefixAndMarkerBytes_marker : ∃ s : State, s.byteclkEn = true ∧ s.txState = .idle ∧ s.rxState = .preamble
    ∧ (frontBuf s).progress = Config.actual.rxPrefixLen :=
  ⟨setFrontBuf { frontBuf armed with progress := Config.actual.rxPrefixLen } { armed with rxState := .preamble }, rfl, rfl, rfl, rfl⟩

/-- The last body byte of a one-byte body, with the back buffer free, and with it ready. -/
def lastBody (back : FrameBuffer) : State :=
  setBackBuf back (setFrontBuf { frontBuf armed with size := 1 } { armed with rxState := .body })

theorem witness_BodyByteIsStoredAndCompletes (back : FrameBuffer) : (lastBody back).byteclkEn = true ∧ (lastBody back).txState = .idle ∧ (lastBody back).rxState = .body
    ∧ (frontBuf (lastBody back)).progress < (frontBuf (lastBody back)).size ∧ (frontBuf (lastBody back)).size ≤ Config.actual.maxPayload
    ∧ Memory.wf (frontBuf (lastBody back)).payload ∧ backBuf (lastBody back) = back :=
  ⟨rfl, rfl, rfl, Nat.zero_lt_one, one_le_max, List.Pairwise.nil, rfl⟩

/-- A transmission in progress, with a one-byte body loaded. -/
def sending (st : TxState) (progress : Nat) : State :=
  setFrontBuf { FrameBuffer.cleared 0 0 with size := 1, progress := progress, trainingRemaining := 1, payload := [(0, 0xAB#8)] }
    { receiving with mode := .transmitting, trsw := true, syncArmed := false, byteclkEn := true, txState := st }

theorem witness_TransmitBytesInEachSubState : (sending .training 0).byteclkEn = true ∧ 0 < (frontBuf (sending .training 0)).trainingRemaining
    ∧ (sending .preamble 0).preIdx ≤ Config.actual.callsign.length
    ∧ (frontBuf (sending .body 0)).progress < (frontBuf (sending .body 0)).size ∧ (frontBuf (sending .body 0)).size ≤ Config.actual.maxPayload
    ∧ Memory.read (frontBuf (sending .body 0)).payload (frontBuf (sending .body 0)).progress = some 0xAB#8 :=
  ⟨rfl, Nat.zero_lt_one, Nat.zero_le _, Nat.zero_lt_one, one_le_max, rfl⟩

theorem witness_TransmitCompletionReturnsToReceiving : (sending .body 1).byteclkEn = true ∧ (sending .body 1).txState = .body
    ∧ (frontBuf (sending .body 1)).progress = (frontBuf (sending .body 1)).size ∧ Staged (sending .body 1).stageRx Config.actual.rxSeq :=
  ⟨rfl, rfl, rfl, staged_fullImage 1 _⟩

theorem holds_one : Holds [(0, 0xAB#8)] [0xAB#8] := by
  intro j hj
  have : j = 0 := by simpa using hj
  subst this
  rfl

theorem witness_TransmittedFrameIsTheAirStream : (sending .training 0).byteclkEn = true ∧ (sending .training 0).preIdx = 0
    ∧ ((sending .training 0).txState = .training ∧ 0 < (frontBuf (sending .training 0)).trainingRemaining)
    ∧ (frontBuf (sending .training 0)).progress = 0 ∧ (frontBuf (sending .training 0)).size = [0xAB#8].length ∧ [0xAB#8].length ≤ Config.actual.maxPayload
    ∧ Holds (frontBuf (sending .training 0)).payload [0xAB#8]
    ∧ ∃ bytes : List Byte, bytes.length = (airFrame Config.actual 1 (sending .training 0).ftype [0xAB#8]).length :=
  ⟨rfl, rfl, ⟨rfl, Nat.zero_lt_one⟩, rfl, rfl, one_le_max, holds_one, _, rfl⟩

/-- The other case: no training byte. -/
theorem witness_TransmittedFrameIsTheAirStream_untrained : ∃ s : State, s.byteclkEn = true ∧ s.preIdx = 0 ∧ s.txState = .preamble
    ∧ (frontBuf s).trainingRemaining = 0 ∧ (frontBuf s).progress = 0 ∧ (frontBuf s).size = [0xAB#8].length ∧ Holds (frontBuf s).payload [0xAB#8] :=
  ⟨setFrontBuf { frontBuf (sending .preamble 0) with trainingRemaining := 0 } (sending .preamble 0), rfl, rfl, rfl, rfl, rfl, rfl, holds_one⟩

/-- After the sync edge, with a tolerance of `n` bits. -/
def tolerant (n : Nat) : State := { armed with syncActive := ⟨0, 0, n⟩ }

theorem backBuf_tolerant (n : Nat) : backBuf (tolerant n) = FrameBuffer.cleared 0 0 := backBuf_armed

/-- A tolerance wide enough for any prefix makes the prefix hypothesis true. -/
theorem witness_ReceivedFrameReachesTheBackBuffer : ∃ (s : State) (pre : List Byte) (m : Byte) (body : List Byte), s.byteclkEn = true ∧ s.rxState = .armed ∧ s.txState = .idle
    ∧ s.rxErr = 0 ∧ (frontBuf s).progress = 0 ∧ Memory.wf (frontBuf s).payload ∧ (backBuf s).ready = false ∧ pre.length = Config.actual.rxPrefixLen
    ∧ prefixErrors Config.actual 0 pre ≤ 2 * s.syncActive.tol ∧ body.length = Config.actual.frameLen (classify m) := by
  refine ⟨tolerant (prefixErrors Config.actual 0 (List.replicate Config.actual.rxPrefixLen 0)), List.replicate Config.actual.rxPrefixLen 0, 0xA6#8,
    List.replicate (Config.actual.frameLen (classify 0xA6#8)) 0, rfl, rfl, rfl, rfl, rfl, List.Pairwise.nil, by rw [backBuf_tolerant]; rfl,
    List.length_replicate, ?_, List.length_replicate⟩
  show prefixErrors Config.actual 0 _ ≤ 2 * prefixErrors Config.actual 0 _
  omega

theorem witness_ReadyBackBufferIsImmutable : (∃ t, exec .evSyncDetect (setBackBuf readyBuffer receiving) = .next t) ∧ (backBuf (setBackBuf readyBuffer receiving)).ready = true :=
  ⟨⟨_, rfl⟩, rfl⟩

theorem witness_DrainHandsTheFrameOver : ((backBuf (setBackBuf readyBuffer receiving)).ready = true ∧ (setBackBuf readyBuffer receiving).drainPending = false
      ∧ (backBuf (setBackBuf readyBuffer receiving)).size ≤ Config.actual.maxPayload
      ∧ Written (backBuf (setBackBuf readyBuffer receiving)) (backBuf (setBackBuf readyBuffer receiving)).size)
    ∧ (setBackBuf readyBuffer State.reset).mode = .off ∧ (backBuf receiving).ready = false
    ∧ ({ setBackBuf readyBuffer receiving with drainPending := true } : State).drainPending = true := by
  refine ⟨⟨rfl, rfl, one_le_max, fun j hj => ?_⟩, rfl, rfl, rfl⟩
  have : j = 0 := by
    have : j < 1 := hj
    omega
  subst this
  show some 0xAB#8 ≠ none
  simp

theorem witness_CarrierSenseCheckRules : receiving.mode ≠ .off ∧ State.reset.mode = .off := ⟨receiving_on, rfl⟩

/-- A counter of 1: both readings are at or below a threshold that is the larger of them. -/
theorem witness_QuarantineLastsExactlyItsCount : ∃ s : State, s.mode ≠ .off ∧ s.quarantine = 1
    ∧ ∀ k ≤ s.quarantine, rssiOf Config.actual (Config.actual.draws.readback (s.drawCount + k) Config.actual.selRssi) ≤ s.cfg.csThreshold := by
  let r := fun k : Nat => rssiOf Config.actual (Config.actual.draws.readback (receiving.drawCount + k) Config.actual.selRssi)
  refine ⟨{ receiving with quarantine := 1, cfg := { settings with csThreshold := max (r 0) (r 1) } }, receiving_on, rfl, fun k hk => ?_⟩
  have hk' : k ≤ 1 := hk
  obtain rfl | rfl : k = 0 ∨ k = 1 := by omega
  · exact le_max_left (r 0) (r 1)
  · exact le_max_right (r 0) (r 1)

/-- Receiving with nothing planned or staged for TX, as after CONFIGURE_RX and SET_RX_MODE alone. -/
def rxOnly : State := { receiving with planTx := none, stageTx := State.reset.stageTx }

theorem witness_good_rxOnly : Good Config.actual rxOnly := by
  constructor
  · constructor
    case inv9 =>
      rintro a v (h | h | h)
      · exact fullImage_addr a v h
      · exact sys_empty a v h
      · exact sys_empty a v h
    all_goals simp [rxOnly, receiving, frontBuf, FrameBuffer.ready, State.reset, State.resetOf, FrameBuffer.cleared]
  · obtain ⟨h1, h2, h3, h4, h5, h6, h7, h8, h9, h10, h11, h12, h13⟩ := witness_good_receiving.working
    refine ⟨h1, h2, ?_, h4, ?_, h6, h7, h8, h9, h10, h11, h12, h13⟩ <;> simp [rxOnly]

/-- A planned state, and a good state without a TX plan, where nothing need be staged. -/
theorem witness_TxStartLoadsAndSwitches : (receiving.mode = .receiving ∧ ¬ midFrame receiving ∧ receiving.planTx ≠ none
      ∧ Staged receiving.stageTx (Config.actual.regPa :: Config.actual.txSeq) ∧ Memory.wf (frontBuf receiving).payload)
    ∧ Good Config.actual rxOnly ∧ rxOnly.mode = .receiving ∧ ¬ midFrame rxOnly
      ∧ (rxOnly.planTx ≠ none → Staged rxOnly.stageTx (Config.actual.regPa :: Config.actual.txSeq)) ∧ Memory.wf (frontBuf rxOnly).payload :=
  ⟨⟨rfl, not_midFrame_receiving, by simp [receiving], staged_fullImage 1 _, List.Pairwise.nil⟩,
    witness_good_rxOnly, rfl, not_midFrame_receiving, fun h => absurd rfl h, List.Pairwise.nil⟩

theorem witness_TxStartTurnedAwayEarly : State.reset.mode = .off ∧ ((sending .body 0).mode ≠ .off ∧ (sending .body 0).mode ≠ .receiving) ∧ (armed.mode ≠ .off ∧ midFrame armed) :=
  ⟨rfl, ⟨by simp [sending, setFrontBuf], by simp [sending, setFrontBuf]⟩, armed_on, midFrame_armed⟩

/-- A SHORT frame with all bytes sent, its completion due. -/
def sent : State :=
  setFrontBuf { FrameBuffer.cleared 0 0 with
      size := Config.actual.frameLen .short, progress := Config.actual.frameLen .short
      payload := Memory.writeAll [] 0 (List.replicate (Config.actual.frameLen .short) 0) }
    { receiving with mode := .transmitting, trsw := true, syncArmed := false, byteclkEn := true, txState := .body }

theorem written_sent : Written (frontBuf sent) (Config.actual.frameLen .short) := fun j hj => by
  show Memory.read (Memory.writeAll [] 0 _) j ≠ none
  rw [Memory.read_writeAll List.Pairwise.nil]
  simp [hj]

theorem bufferGood_sent : BufferGood Config.actual (frontBuf sent) where
  flags := .inl rfl
  progress := Nat.le_refl _
  canonical := Memory.writeAll_wf List.Pairwise.nil _ _
  inside x hx := by
    have : (0 ≤ x.1 ∧ x.1 < 0 + (List.replicate (Config.actual.frameLen .short) (0 : Byte)).length) ∨ x ∈ [] := Memory.mem_writeAll hx
    have := Config.actual.valid.short_le
    simp_all
    omega
  ready_size _ := Config.actual.valid.short_le
  ready_written _ := written_sent

theorem witness_good_sent : Good Config.actual sent := by
  constructor
  · constructor
    case inv9 =>
      rintro a v (h | h | h)
      · exact fullImage_addr a v h
      · exact fullImage_addr a v h
      · exact sys_empty a v h
    all_goals simp [sent, receiving, setFrontBuf, frontBuf, FrameBuffer.ready, State.reset, State.resetOf, FrameBuffer.cleared]
  · constructor
    case buf_front => exact bufferGood_sent
    case buf_back => exact bufferGood_cleared 0
    case xtal => exact Config.actual.valid.xtal_pos
    case staged_rx => exact fun _ => staged_fullImage 1 _
    case staged_tx => exact fun _ => ⟨staged_fullImage 1 _, by simp [sent, receiving, setFrontBuf, imageAt_fullImage]⟩
    case plan_rx => intro p h; cases h; exact somePlan_inRange
    case plan_tx => intro p h; cases h; exact somePlan_inRange
    case tx_frame => exact fun _ => ⟨rfl, written_sent, by simp [sent, receiving, setFrontBuf]⟩
    all_goals simp [sent, receiving, setFrontBuf, frontBuf, State.reset, State.resetOf]

theorem sent_completes : exec (.evByteClock 0#8) sent = .next { sent with
    byteclkEn := false, txState := .idle, mode := .receiving, trsw := false, syncArmed := true
    history := sent.history ++ [.byteClock] ++ rxSwitchEvents Config.actual sent ++ [.emit .txComplete] } := by
  have h : exec (.evByteClock 0#8) sent = finish (txBodyByte Config.actual (record .byteClock sent)) := rfl
  have e : rxModeSwitch Config.actual { record .byteClock sent with byteclkEn := false, txState := .idle } = _ := rxModeSwitch_eq (staged_fullImage 1 _)
  have n : txBodyByte Config.actual (record .byteClock sent) = txComplete Config.actual (record .byteClock sent) := by
    show (if Config.actual.frameLen .short < Config.actual.frameLen .short then _ else if Config.actual.frameLen .short = Config.actual.frameLen .short then _ else _) = _
    rw [if_neg (Nat.lt_irrefl _), if_pos rfl]
  rw [h, n, txComplete, e]
  rfl

/-- The clauses of the byte clock have a state each: nothing in progress, and a transmission that completes with a register write. -/
theorem witness_HandlersUseTheBusOnlyBetweenFrames : (Good Config.actual receiving ∧ (∃ t, exec (.evByteClock 0#8) receiving = .next t) ∧ ∃ t, exec .evSyncDetect receiving = .next t)
    ∧ Good Config.actual sent ∧ ∃ t v, exec (.evByteClock 0#8) sent = .next t ∧ .busWrite v ∈ newEvents sent t := by
  refine ⟨⟨witness_good_receiving, ⟨_, rfl⟩, _, rfl⟩, witness_good_sent, _, staged Config.actual.regPll 1, sent_completes, ?_⟩
  have hp : Event.busWrite (staged Config.actual.regPll 1) ∈ rxSwitchEvents Config.actual sent := by
    refine List.mem_flatMap.mpr ⟨Config.actual.regPll, Config.actual.valid.pll_mem_rx, List.mem_append_left _ ?_⟩
    rw [if_neg fun h => Config.actual.valid.pll_ne_clk h.1]
    show _ ∈ writeEvent (fullImage 1) _
    simp [writeEvent, imageAt_fullImage]
  have d : ∀ l : List Event, newEvents sent { sent with history := sent.history ++ [.byteClock] ++ l ++ [.emit .txComplete] } = [.byteClock] ++ l ++ [.emit .txComplete] :=
    fun _ => rfl
  exact (d _).symm ▸ List.mem_append_left _ (List.mem_append_right _ hp)

/-- R275: a pass with nothing between its parts tries to send; a sync edge before its second test starts a frame, and the pass sends nothing. -/
theorem test_main_pass : runMainPass Config.actual [] [] [] receiving = exec .txStart receiving
    ∧ runMainPass Config.actual [] [.evSyncDetect] [] receiving = exec .evSyncDetect receiving := by
  refine ⟨?_, rfl⟩
  have h : runMainPass Config.actual [] [] [] receiving = execAll [.txStart] receiving := rfl
  rw [h, execAll]
  cases exec .txStart receiving <;> rfl

theorem witness_EveryStepKeepsTheInvariants : Good Config.actual receiving ∧ ∃ t, step receiving = .next t := ⟨witness_good_receiving, _, rfl⟩

theorem witness_EveryStepKeepsTheOutputs : Good Config.actual receiving ∧ OutputsFollowMode receiving ∧ ∃ t, step receiving = .next t :=
  ⟨witness_good_receiving, ⟨by simp [receiving], by simp [receiving, State.reset, State.resetOf]⟩, _, rfl⟩

theorem witness_EveryStepKeepsPayloadsCanonical : PayloadsCanonical receiving ∧ ∃ t, step receiving = .next t := ⟨⟨List.Pairwise.nil, List.Pairwise.nil⟩, _, rfl⟩

theorem witness_GoodStatesStayWithinTheRules : Good Config.actual armed ∧ armed.faults = [] := ⟨witness_good_armed, rfl⟩

end Sys2Proof.Tests
end

