-- ==== Sys2Proof/Proofs/StuckStates.lean ====
section
/-! PROOFS. The reasoning rules of `step` in a stopped state and of `afterStep` where a step stops (R11, R333, R334). -/

namespace Sys2Proof.Proofs

open Sys2Proof.Machine

/-! ### What `step` answers in a stopped state -/

theorem step_of_faults_cons {s : State} {f : Fault} {later : List Fault} (h : s.faults = f :: later) : step s = .fault f := by
  simp only [step, h]

theorem step_of_refused {s : State} (hf : s.faults = []) (hr : s.refused = true) : step s = .refused .bootloader := by
  simp only [step, hf, hr, if_true]

theorem step_ne_next_of_faults {s : State} (h : s.faults ≠ []) (t : State) : step s ≠ .next t := by
  obtain ⟨f, later, hf⟩ := List.exists_cons_of_ne_nil h
  simp [step_of_faults_cons hf]

/-- A refused state may also hold fault reasons; `step` then answers the fault. -/
theorem step_ne_next_of_refused {s : State} (h : s.refused = true) (t : State) : step s ≠ .next t := by
  by_cases hf : s.faults = []
  · simp [step_of_refused hf h]
  · exact step_ne_next_of_faults hf t

/-! ### The state a stopped step ends in -/

theorem afterStep_of_fault {s : State} {f : Fault} (h : step s = .fault f) : afterStep s = raiseFault f s := by
  simp only [afterStep, h]

theorem afterStep_of_refused {s : State} {r : Refusal} (h : step s = .refused r) : afterStep s = markRefused s := by
  simp only [afterStep, h]

/-- Settles O6: a fault reason or the refusal mark is tested before the inputs are looked at. -/
theorem faultedAndRefusedStatesAreStuck : Obligations.FaultedAndRefusedStatesAreStuck := by
  intro s
  refine ⟨?faulted, ?refused, ?faultAdded, ?refusalMarked⟩
  case faulted => exact step_ne_next_of_faults
  case refused => exact step_ne_next_of_refused
  case faultAdded => exact fun _ => afterStep_of_fault
  case refusalMarked => exact fun _ => afterStep_of_refused

end Sys2Proof.Proofs
end

section
/-! PROOFS. What a step leaves of the serial number and of CFG (R34, R45, R87, R300, R302, R303). -/

namespace Sys2Proof.Proofs

open Sys2Proof.Machine

/-- The serial number and CFG are what they were. -/
structure SettingsKept (s t : State) : Prop where
  serial : t.serial = s.serial
  cfg : t.cfg = s.cfg

theorem SettingsKept.trans {s t u : State} (h : SettingsKept s t) (h' : SettingsKept t u) : SettingsKept s u :=
  ⟨h'.serial.trans h.serial, h'.cfg.trans h.cfg⟩

/-! ### Commands that write the bookkeeping alone -/

/-- Nothing changed but the history, the draw count and the reply. -/
def Quiet (s t : State) : Prop := ∃ h d r, t = { s with history := h, drawCount := d, reply := r }

theorem Quiet.settings {s t : State} (h : Quiet s t) : SettingsKept s t := by
  obtain ⟨_, _, _, rfl⟩ := h
  exact ⟨rfl, rfl⟩

theorem quiet_answer (st : Status) (res : Option Result) (s : State) : Quiet s (answer st res s) := ⟨_, _, _, rfl⟩

/-- The commands that return something and change nothing else but what they record. -/
def isQuery : Instr → Bool
  | .planClocks _ _ _ | .readRssi | .readAfcOffset | .readTemperature | .readSupplyVoltage | .readChipVersion => true
  | .regWrite _ | .regRead _ | .scrGenerate _ | .scrApply _ _ | .configGet _ | .serialGet | .fwRevGet => true
  | _ => false

/-- Where a query ends: quietly, or in one of the spec's own faults. -/
def EndsQuietly (s : State) : Except Fault State → Prop
  | .ok t => Quiet s t
  | .error f => f = .range ∨ f = .busOff ∨ f = .seqShort

theorem planClocksCommand_endsQuietly (c : Config) (xtal : Word) (rate h : RatArg) (s : State) : EndsQuietly s (planClocksCommand c xtal rate h s) := by
  unfold planClocksCommand
  split
  · exact quiet_answer _ _ _
  · split
    · split
      · exact quiet_answer _ _ _
      · exact quiet_answer _ _ _
    · exact .inl rfl

theorem readCommand_endsQuietly (c : Config) (sel : Selector) (conv : Word → Result) (s : State) : EndsQuietly s (readCommand c sel conv s) := by
  unfold readCommand
  split
  · exact .inr (.inl rfl)
  · exact ⟨_, _, _, rfl⟩

theorem regWriteCommand_endsQuietly (v : Word) (s : State) : EndsQuietly s (regWriteCommand v s) := by
  unfold regWriteCommand
  split
  · exact .inr (.inl rfl)
  · exact ⟨_, _, _, rfl⟩

theorem scrApplyCommand_endsQuietly (data seq : List Byte) (s : State) : EndsQuietly s (scrApplyCommand data seq s) := by
  unfold scrApplyCommand applySequence
  by_cases h : data.length ≤ seq.length
  · rw [if_pos h]
    exact quiet_answer _ _ _
  · rw [if_neg h]
    exact .inr (.inr rfl)

theorem configGetCommand_endsQuietly (id : Byte) (s : State) : EndsQuietly s (configGetCommand id s) := by
  unfold configGetCommand
  split
  · exact quiet_answer _ _ _
  · split
    · exact quiet_answer _ _ _
    · exact quiet_answer _ _ _

/-- A query's outcome, whatever the state. -/
theorem exec_of_isQuery {i : Instr} (hi : isQuery i = true) (s : State) : ∃ r, exec i s = finish r ∧ EndsQuietly s r := by
  cases i with
  | planClocks xtal rate h => exact ⟨_, rfl, planClocksCommand_endsQuietly _ xtal rate h s⟩
  | readRssi | readAfcOffset | readTemperature | readSupplyVoltage | readChipVersion | regRead => exact ⟨_, rfl, readCommand_endsQuietly _ _ _ s⟩
  | regWrite v => exact ⟨_, rfl, regWriteCommand_endsQuietly v s⟩
  | scrApply data seq => exact ⟨_, rfl, scrApplyCommand_endsQuietly data seq s⟩
  | configGet id => exact ⟨_, rfl, configGetCommand_endsQuietly id s⟩
  | scrGenerate | serialGet | fwRevGet => exact ⟨.ok _, rfl, quiet_answer _ _ s⟩
  | _ => cases hi

theorem quiet_of_isQuery {i : Instr} {s t : State} (hi : isQuery i = true) (h : exec i s = .next t) : Quiet s t := by
  obtain ⟨r, hr, hq⟩ := exec_of_isQuery hi s
  rw [finish_eq_next.mp (hr.symm.trans h)] at hq
  exact hq

/-! ### The shared operations -/

theorem writeSys_settings (l : List (RegAddr × Nat)) (s : State) : SettingsKept s (writeSys l s) := by
  rw [writeSys_eq]
  exact ⟨rfl, rfl⟩

theorem writeStaged_settings {m : Image} {a : RegAddr} {s t : State} (h : writeStaged m a s = .ok t) : SettingsKept s t := by
  obtain ⟨v, _, rfl⟩ := writeStaged_ok.mp h
  exact ⟨rfl, rfl⟩

theorem txSwitchWrites_settings {c : Config} {prev : Option Dir} {l : List RegAddr} {s t : State} (h : txSwitchWrites c prev l s = .ok t) :
    SettingsKept s t := by
  induction l generalizing s with
  | nil => cases h; exact ⟨rfl, rfl⟩
  | cons a l ih =>
    rw [txSwitchWrites] at h
    split at h
    · exact ih h
    · split at h
      · cases h
      · next hw => exact (writeStaged_settings hw).trans (ih h)

theorem rxSwitchWrites_settings {c : Config} {prev : Option Dir} {l : List RegAddr} {s t : State} (h : rxSwitchWrites c prev l s = .ok t) :
    SettingsKept s t := by
  induction l generalizing s with
  | nil => cases h; exact ⟨rfl, rfl⟩
  | cons a l ih =>
    rw [rxSwitchWrites] at h
    split at h
    · exact ih h
    · split at h
      · cases h
      · next s1 hw =>
        have hd : SettingsKept s1 (if a = c.regPll then driveTr false s1 else s1) := by split <;> exact ⟨rfl, rfl⟩
        exact ((writeStaged_settings hw).trans hd).trans (ih h)

theorem rxModeSwitch_settings {c : Config} {s t : State} (h : rxModeSwitch c s = .ok t) : SettingsKept s t := by
  unfold rxModeSwitch at h
  split at h
  · cases h
  · next hw =>
    cases h
    exact (rxSwitchWrites_settings hw).trans ⟨rfl, rfl⟩

theorem warmPa_settings {c : Config} {s t : State} (h : warmPa c s = .ok t) : SettingsKept s t := by
  unfold warmPa at h
  split at h
  · cases h; exact ⟨rfl, rfl⟩
  · split at h
    · cases h
    · next hw =>
      cases h
      exact (writeStaged_settings hw).trans ⟨rfl, rfl⟩

theorem txModeSwitch_settings {c : Config} {s t : State} (h : txModeSwitch c s = .ok t) : SettingsKept s t := by
  unfold txModeSwitch at h
  simp only at h
  split at h
  · cases h
  · next s1 hpa =>
    split at h
    · cases h
    · next s2 hseq =>
      split at h
      · cases h
      · next s4 hpll =>
        cases h
        have k := (warmPa_settings hpa).trans (txSwitchWrites_settings hseq)
        have k' := writeStaged_settings hpll
        exact ⟨k'.serial.trans k.serial, k'.cfg.trans k.cfg⟩

theorem failPlan_settings (d : Dir) (s : State) : SettingsKept s (failPlan d s) := by
  cases d <;> exact ⟨rfl, rfl⟩

/-! ### The radio controller's commands -/

theorem powerOnCommand_settings {c : Config} {xtal : Word} {s t : State} (h : powerOnCommand c xtal s = .ok t) : SettingsKept s t := by
  unfold powerOnCommand at h
  simp only [releaseTr_eq, writeSys_eq] at h
  split at h
  · cases h
  · split at h
    · cases h
    · cases h; exact ⟨rfl, rfl⟩

theorem abandonFrame_settings (s : State) : SettingsKept s (abandonFrame s) := by
  unfold abandonFrame
  split <;> exact ⟨rfl, rfl⟩

theorem powerOffCommand_settings {s t : State} (h : powerOffCommand s = .ok t) : SettingsKept s t := by
  unfold powerOffCommand at h
  simp only [releaseTr_eq] at h
  split at h
  · cases h; exact ⟨rfl, rfl⟩
  · cases h
    exact (abandonFrame_settings s).trans ⟨rfl, rfl⟩

theorem configureRx_settings {c : Config} {rate h : Rat} {freq ifbw : Nat} {s t : State} {ok : Bool}
    (he : configureRx c rate h freq ifbw s = .ok (ok, t)) : SettingsKept s t := by
  unfold configureRx at he
  split at he
  · cases he
  · cases he; exact failPlan_settings .rx s
  · cases he; exact ⟨rfl, rfl⟩

theorem configureTx_settings {c : Config} {rate h : Rat} {freq : Nat} {s t : State} {ok : Bool}
    (he : configureTx c rate h freq s = .ok (ok, t)) : SettingsKept s t := by
  unfold configureTx at he
  split at he
  · cases he
  · cases he; exact failPlan_settings .tx s
  · cases he; exact ⟨rfl, rfl⟩

theorem configureRxCommand_settings {c : Config} {rate h : RatArg} {freq : Word} {ifbw : Byte} {s t : State}
    (he : configureRxCommand c rate h freq ifbw s = .ok t) : SettingsKept s t := by
  unfold configureRxCommand at he
  split at he
  · cases he; exact ⟨rfl, rfl⟩
  · split at he
    · cases he
    · next hc => cases he; exact (configureRx_settings hc).trans ⟨rfl, rfl⟩

theorem configureTxCommand_settings {c : Config} {rate h : RatArg} {freq : Word} {s t : State}
    (he : configureTxCommand c rate h freq s = .ok t) : SettingsKept s t := by
  unfold configureTxCommand at he
  split at he
  · cases he; exact ⟨rfl, rfl⟩
  · split at he
    · cases he
    · next hc => cases he; exact (configureTx_settings hc).trans ⟨rfl, rfl⟩

theorem setRxMode_settings {c : Config} {s t : State} (h : setRxMode c s = .ok t) : SettingsKept s t := by
  unfold setRxMode at h
  split_ifs at h
  exact rxModeSwitch_settings h

theorem setTxMode_settings {c : Config} {s t : State} (h : setTxMode c s = .ok t) : SettingsKept s t := by
  unfold setTxMode at h
  split_ifs at h
  exact txModeSwitch_settings h

theorem setSyncWord_settings {c : Config} {word len tol : Nat} {s t : State} (h : setSyncWord c word len tol s = .ok t) : SettingsKept s t := by
  unfold setSyncWord at h
  split_ifs at h
  cases h
  exact (writeSys_settings _ s).trans ⟨rfl, rfl⟩

theorem enableAfc_settings {c : Config} {range ki kp : Nat} {s t : State} (h : enableAfc c range ki kp s = .ok t) : SettingsKept s t := by
  unfold enableAfc at h
  split_ifs at h
  cases h
  exact (writeSys_settings _ s).trans ⟨rfl, rfl⟩

theorem disableAfc_settings {c : Config} {s t : State} (h : disableAfc c s = .ok t) : SettingsKept s t := by
  unfold disableAfc at h
  split_ifs at h
  cases h
  exact (writeSys_settings _ s).trans ⟨rfl, rfl⟩

theorem thenOk_eq_ok {r : Except Fault State} {t : State} : thenOk r = .ok t ↔ ∃ u, r = .ok u ∧ t = answer .ok none u := by
  cases r <;> simp [thenOk, eq_comm]

/-- An operation that keeps the settings keeps them as a command too. -/
theorem thenOk_settings {r : Except Fault State} {s t : State} (hr : ∀ u, r = .ok u → SettingsKept s u) (h : thenOk r = .ok t) : SettingsKept s t := by
  obtain ⟨u, hu, rfl⟩ := thenOk_eq_ok.mp h
  exact (hr u hu).trans ⟨rfl, rfl⟩

theorem reconfigureAfc_settings {c : Config} {s t : State} (h : reconfigureAfc c s = .ok t) : SettingsKept s t := by
  unfold reconfigureAfc at h
  split at h
  · exact enableAfc_settings h
  · exact disableAfc_settings h

/-- What a RECONFIGURE that completes went through (R188). -/
theorem reconfigureCommand_ok {c : Config} {s t : State} (h : reconfigureCommand c s = .ok t) :
    ∃ s1 s2 s3 s4 s5 okRx okTx, setSyncWord c s.cfg.syncWord s.cfg.syncLen s.cfg.syncTol s = .ok s1
      ∧ configureRx c s1.cfg.bitrate s1.cfg.modIndex s1.cfg.rxFreq s1.cfg.ifBwClass s1 = .ok (okRx, s2)
      ∧ configureTx c s2.cfg.bitrate s2.cfg.modIndex s2.cfg.txFreq s2 = .ok (okTx, s3)
      ∧ reconfigureAfc c s3 = .ok s4 ∧ setRxMode c s4 = .ok s5 ∧ t = answer (planStatus (okRx && okTx)) none s5 := by
  unfold reconfigureCommand at h
  split_ifs at h
  split at h
  · cases h
  · next s1 h1 =>
    split at h
    · cases h
    · next okRx s2 h2 =>
      split at h
      · cases h
      · next okTx s3 h3 =>
        split at h
        · cases h
        · next s4 h4 =>
          split at h
          · cases h
          · next s5 h5 =>
            cases h
            exact ⟨s1, s2, s3, s4, s5, okRx, okTx, h1, h2, h3, h4, h5, rfl⟩

theorem reconfigureCommand_settings {c : Config} {s t : State} (h : reconfigureCommand c s = .ok t) : SettingsKept s t := by
  obtain ⟨s1, s2, s3, s4, s5, _, _, h1, h2, h3, h4, h5, rfl⟩ := reconfigureCommand_ok h
  have hconf : SettingsKept s s3 := ((setSyncWord_settings h1).trans (configureRx_settings h2)).trans (configureTx_settings h3)
  have hmode : SettingsKept s3 s5 := (reconfigureAfc_settings h4).trans (setRxMode_settings h5)
  exact (hconf.trans hmode).trans ⟨rfl, rfl⟩

/-! ### The frame engine -/

theorem prefixByte_settings (c : Config) (b : Byte) (s : State) : SettingsKept s (prefixByte c b s) := by
  unfold prefixByte prefixCheck
  simp only
  split
  · split <;> exact ⟨rfl, rfl⟩
  · exact ⟨rfl, rfl⟩

theorem rxComplete_settings (s : State) : SettingsKept s (rxComplete s) := by
  unfold rxComplete
  split <;> exact ⟨rfl, rfl⟩

theorem bodyByte_settings {c : Config} {b : Byte} {s t : State} (h : bodyByte c b s = .ok t) : SettingsKept s t := by
  unfold bodyByte at h
  simp only at h
  split at h
  · cases h
  · cases h
    split
    · have k := rxComplete_settings
      exact ⟨(k _).serial, (k _).cfg⟩
    · exact ⟨rfl, rfl⟩

theorem rxByte_settings {c : Config} {b : Byte} {s t : State} (h : rxByte c b s = .ok t) : SettingsKept s t := by
  unfold rxByte at h
  split at h
  · cases h
  · exact bodyByte_settings h
  all_goals
    split at h
    · cases h; exact prefixByte_settings c b s
    · split at h
      · cases h; exact ⟨rfl, rfl⟩
      · cases h

theorem trainingByte_settings {c : Config} {s t : State} (h : trainingByte c s = .ok t) : SettingsKept s t := by
  unfold trainingByte at h
  simp only at h
  split at h
  · cases h
  · cases h
    split <;> exact ⟨rfl, rfl⟩

theorem preambleByte_settings {c : Config} {s t : State} (h : preambleByte c s = .ok t) : SettingsKept s t := by
  unfold preambleByte at h
  simp only at h
  split at h
  · cases h
  · cases h
    split <;> exact ⟨rfl, rfl⟩

theorem txComplete_settings {c : Config} {s t : State} (h : txComplete c s = .ok t) : SettingsKept s t := by
  unfold txComplete at h
  split at h
  · cases h
  · next hm =>
    cases h
    have k := rxModeSwitch_settings hm
    exact ⟨k.serial, k.cfg⟩

theorem txBodyByte_settings {c : Config} {s t : State} (h : txBodyByte c s = .ok t) : SettingsKept s t := by
  unfold txBodyByte at h
  simp only at h
  split at h
  · split at h
    · cases h
    · cases h; exact ⟨rfl, rfl⟩
  · split at h
    · exact txComplete_settings h
    · cases h

theorem txByte_settings {c : Config} {s t : State} (h : txByte c s = .ok t) : SettingsKept s t := by
  unfold txByte at h
  split at h
  · cases h
  · exact trainingByte_settings h
  · exact preambleByte_settings h
  · exact txBodyByte_settings h

/-- Taking an event, where its handler keeps the settings (R249, R341). -/
theorem takeEvent_settings {en : Bool} {f : State → Except Fault State} {s t : State} (hf : ∀ u, f s = .ok u → SettingsKept s u)
    (h : takeEvent en f s = .ok t) : SettingsKept s t := by
  cases en with
  | false => cases h; exact ⟨rfl, rfl⟩
  | true => exact hf t h

theorem byteClockHandler_settings {c : Config} {b : Byte} {s t : State} (h : byteClockHandler c b s = .ok t) : SettingsKept s t := by
  unfold byteClockHandler at h
  split at h
  · have k := txByte_settings h
    exact ⟨k.serial, k.cfg⟩
  · have k := rxByte_settings h
    exact ⟨k.serial, k.cfg⟩

/-- The readings of a drain write the history and the draw count alone (R265). -/
theorem drainReadings_frame (c : Config) (s : State) : ∃ r f h d, drainReadings c s = (r, f, { s with history := h, drawCount := d }) := by
  unfold drainReadings
  split
  · exact ⟨_, _, _, _, rfl⟩
  · exact ⟨_, _, _, _, rfl⟩

theorem rxDrainBeginCommand_settings {c : Config} {s t : State} (h : rxDrainBeginCommand c s = .ok t) : SettingsKept s t := by
  obtain ⟨_, _, _, _, hd⟩ := drainReadings_frame c s
  unfold rxDrainBeginCommand at h
  simp only [hd] at h
  split at h
  · cases h; exact ⟨rfl, rfl⟩
  · split at h
    · cases h; exact ⟨rfl, rfl⟩
    · split at h
      · cases h
      · cases h; exact ⟨rfl, rfl⟩

theorem rxDrainEndCommand_settings {s t : State} (h : rxDrainEndCommand s = .ok t) : SettingsKept s t := by
  unfold rxDrainEndCommand at h
  split at h <;> cases h <;> exact ⟨rfl, rfl⟩

theorem transmitAllowed_settings (c : Config) (s : State) : SettingsKept s (transmitAllowed c s).2 := by
  rw [transmitAllowed_eq]
  exact ⟨rfl, rfl⟩

theorem csCheckCommand_settings {c : Config} {s t : State} (h : csCheckCommand c s = .ok t) : SettingsKept s t := by
  unfold csCheckCommand at h
  split_ifs at h
  cases h
  exact (transmitAllowed_settings c s).trans ⟨rfl, rfl⟩

theorem startFrame_settings {c : Config} {f : List Byte} {ft : FrameType} {s t : State} (h : startFrame c f ft s = .ok t) : SettingsKept s t := by
  unfold startFrame at h
  simp only at h
  split at h
  · cases h
  · split at h
    · cases h
    · next hm =>
      cases h
      have k := txModeSwitch_settings hm
      exact ⟨k.serial, k.cfg⟩

theorem txStartCommand_settings {c : Config} {s t : State} (h : txStartCommand c s = .ok t) : SettingsKept s t := by
  have k := transmitAllowed_settings c s
  unfold txStartCommand at h
  generalize transmitAllowed c s = v at h k
  simp only [hostPull_eq] at h
  split at h
  · cases h
  split at h
  · cases h; exact ⟨rfl, rfl⟩
  split at h
  · cases h; exact ⟨k.serial, k.cfg⟩
  split at h
  · next hp =>
    obtain ⟨-, rfl⟩ := Prod.mk.inj hp
    cases h; exact ⟨k.serial, k.cfg⟩
  · next hp =>
    obtain ⟨-, rfl⟩ := Prod.mk.inj hp
    split at h
    · cases h
    split at h
    · cases h; exact ⟨k.serial, k.cfg⟩
    · have k' := startFrame_settings h
      exact ⟨k'.serial.trans k.serial, k'.cfg.trans k.cfg⟩

/-! ### CONFIG_SET, SERIAL_SET and the resets -/

theorem configSetCommand_serial {id : Byte} {v : ConfigArg} {s t : State} (h : configSetCommand id v s = .ok t) : t.serial = s.serial := by
  unfold configSetCommand at h
  split at h <;> cases h <;> rfl

theorem softReset_serial (c : Config) (s : State) : (softReset c s).serial = s.serial := by
  unfold softReset
  rw [(clearState_kept c _).1, releaseCe_eq, releaseTr_eq]

/-- What each instruction leaves of the settings: all of them, but for the two commands that write one and the resets. -/
theorem exec_settings {i : Instr} {s t : State} (h : exec i s = .next t) :
    SettingsKept s t ∨ (∃ v, i = .serialSet v ∧ t.serial = v ∧ t.cfg = s.cfg)
      ∨ (t.serial = s.serial ∧ ((∃ id v, i = .configSet id v) ∨ i = .softReset ∨ i = .evPowerUpReset)) := by
  cases i with
  | planClocks | readRssi | readAfcOffset | readTemperature | readSupplyVoltage | readChipVersion | regWrite | regRead | scrGenerate | scrApply
  | configGet | serialGet | fwRevGet => exact .inl (quiet_of_isQuery rfl h).settings
  | powerOn => exact .inl (powerOnCommand_settings (finish_eq_next.mp h))
  | powerOff => exact .inl (powerOffCommand_settings (finish_eq_next.mp h))
  | configureRx => exact .inl (configureRxCommand_settings (finish_eq_next.mp h))
  | configureTx => exact .inl (configureTxCommand_settings (finish_eq_next.mp h))
  | setRxMode => exact .inl (thenOk_settings (fun _ => setRxMode_settings) (finish_eq_next.mp h))
  | setTxMode => exact .inl (thenOk_settings (fun _ => setTxMode_settings) (finish_eq_next.mp h))
  | setSyncWord => exact .inl (thenOk_settings (fun _ => setSyncWord_settings) (finish_eq_next.mp h))
  | enableAfc => exact .inl (thenOk_settings (fun _ => enableAfc_settings) (finish_eq_next.mp h))
  | disableAfc => exact .inl (thenOk_settings (fun _ => disableAfc_settings) (finish_eq_next.mp h))
  | reconfigure => exact .inl (reconfigureCommand_settings (finish_eq_next.mp h))
  | csCheck => exact .inl (csCheckCommand_settings (finish_eq_next.mp h))
  | txStart => exact .inl (txStartCommand_settings (finish_eq_next.mp h))
  | rxDrainBegin => exact .inl (rxDrainBeginCommand_settings (finish_eq_next.mp h))
  | rxDrainEnd => exact .inl (rxDrainEndCommand_settings (finish_eq_next.mp h))
  | evSyncDetect => exact .inl (takeEvent_settings (fun _ hu => by cases hu; exact ⟨rfl, rfl⟩) (finish_eq_next.mp h))
  | evByteClock => exact .inl (takeEvent_settings (fun _ => byteClockHandler_settings) (finish_eq_next.mp h))
  | bootloaderEnter => cases h
  | serialSet v => cases h; exact .inr (.inl ⟨v, rfl, rfl, rfl⟩)
  | configSet id v => exact .inr (.inr ⟨configSetCommand_serial (finish_eq_next.mp h), .inl ⟨id, v, rfl⟩⟩)
  | softReset => cases h; exact .inr (.inr ⟨softReset_serial _ _, .inr (.inl rfl)⟩)
  | evPowerUpReset => cases h; exact .inr (.inr ⟨rfl, .inr (.inr rfl)⟩)

/-- Settles O11: of the instructions only SERIAL_SET does not keep the serial number. -/
theorem onlySerialSetWritesTheSerial : Obligations.OnlySerialSetWritesTheSerial := by
  intro i s t h
  obtain hk | ⟨v, hi, hv, -⟩ | ⟨hs, -⟩ := exec_settings h
  · exact .inl hk.serial
  · exact .inr ⟨v, hi, hv⟩
  · exact .inl hs

/-- Settles O12: of the instructions only CONFIG_SET and the resets do not keep CFG. -/
theorem onlyConfigSetAndResetsWriteTheConfiguration : Obligations.OnlyConfigSetAndResetsWriteTheConfiguration := by
  intro i s t h
  obtain hk | ⟨_, _, _, hc⟩ | ⟨-, hi⟩ := exec_settings h
  · exact .inl hk.cfg
  · exact .inl hc
  · exact .inr hi

end Sys2Proof.Proofs
end

section
/-! PROOFS. The moves from a good state to a good state: what each kind of update must respect so that the invariants hold after it (R50). Most are made between frames, where the rules about the frame in progress ask nothing. -/

namespace Sys2Proof.Safety

open Sys2Proof.Machine

variable {c : Config} {s t : State}

/-! ### What the invariants speak of -/

/-- The fields `Good` reads, the others at their reset values. -/
def invariantPart (s : State) : State :=
  { State.reset with
    mode := s.mode, xtalHz := s.xtalHz, planRx := s.planRx, planTx := s.planTx, stageRx := s.stageRx, stageTx := s.stageTx, sys := s.sys, ce := s.ce
    buf := s.buf, front := s.front, rxState := s.rxState, txState := s.txState, ftype := s.ftype, preIdx := s.preIdx
    syncArmed := s.syncArmed, byteclkEn := s.byteclkEn, quarantine := s.quarantine, drainPending := s.drainPending }

theorem good_invariantPart : Good c (invariantPart s) ↔ Good c s :=
  ⟨fun g => ⟨{ g.spec with }, { g.working with }⟩, fun g => ⟨{ g.spec with }, { g.working with }⟩⟩

/-- Updates of the other fields (the history, the reply, CFG, ...) keep a good state good. -/
theorem Good.congr (g : Good c s) (h : invariantPart t = invariantPart s) : Good c t :=
  good_invariantPart.mp (h ▸ good_invariantPart.mpr g)

/-! ### Where a frame in progress stands -/

theorem betweenFrames_iff : betweenFrames s = true ↔ s.rxState = .idle ∧ s.txState = .idle := by
  simp [betweenFrames]

theorem not_midFrame_iff : ¬ midFrame s ↔ betweenFrames s = true := by
  rw [betweenFrames_iff, not_or, not_not, not_not]

theorem Good.byteclk_off (g : Good c s) (hb : betweenFrames s = true) : s.byteclkEn = false := by
  obtain ⟨hr, ht⟩ := betweenFrames_iff.mp hb
  simpa [hr, ht] using g.spec.inv2

theorem Good.betweenFrames_of_armed (g : Good c s) (ha : s.syncArmed = true) : betweenFrames s = true := by
  obtain ⟨-, hr, ht, -⟩ := g.spec.inv1 ha
  exact betweenFrames_iff.mpr ⟨hr, ht⟩

/-- During a frame the byte clock is on and sync detection off. -/
theorem Good.enables_midFrame (g : Good c s) (hm : midFrame s) : s.byteclkEn = true ∧ s.syncArmed = false := by
  refine ⟨g.spec.inv2.mpr hm, Bool.eq_false_iff.mpr fun ha => ?_⟩
  exact not_midFrame_iff.mpr (g.betweenFrames_of_armed ha) hm

theorem Good.tx_idle_of_rx (g : Good c s) (hr : s.rxState ≠ .idle) : s.txState = .idle := g.spec.inv3.resolve_left hr

theorem Good.rx_idle_of_tx (g : Good c s) (ht : s.txState ≠ .idle) : s.rxState = .idle := g.spec.inv3.resolve_right ht

/-- The two frame lengths fit the buffer and are not 0 (R245). -/
theorem frameLen_bounds (c : Config) (ft : FrameType) : 1 ≤ c.frameLen ft ∧ c.frameLen ft ≤ c.maxPayload := by
  cases ft
  · exact ⟨c.valid.short_pos, c.valid.short_le⟩
  · exact ⟨c.valid.long_pos, c.valid.long_le⟩

/-! ### Buffers -/

/-- A front buffer the block may work in: sound, and not handed over (INV4). -/
structure FrontGood (c : Config) (b : FrameBuffer) : Prop where
  good : BufferGood c b
  ready : b.ready = false

theorem Good.frontGood (g : Good c s) : FrontGood c (frontBuf s) := ⟨g.working.buf_front, g.spec.inv4⟩

/-- Counters may move as long as progress stays within the size. -/
theorem FrontGood.withCounters {b : FrameBuffer} (hb : FrontGood c b) {size progress : Nat} (training : Nat) (h : progress ≤ size) :
    FrontGood c { b with size := size, progress := progress, trainingRemaining := training } where
  good := { hb.good with
    progress := h
    ready_size := fun hr => absurd hr (by simpa [FrameBuffer.ready] using hb.ready)
    ready_written := fun hr => absurd hr (by simpa [FrameBuffer.ready] using hb.ready) }
  ready := hb.ready

/-- The payload may change as long as it stays in canonical form and within the buffer. -/
theorem FrontGood.withPayload {b : FrameBuffer} (hb : FrontGood c b) {m : Memory} (hm : Memory.wf m) (hi : ∀ x ∈ m, x.1 < c.maxPayload) :
    FrontGood c { b with payload := m } where
  good := { hb.good with
    canonical := hm
    inside := hi
    ready_size := fun hr => absurd hr (by simpa [FrameBuffer.ready] using hb.ready)
    ready_written := fun hr => absurd hr (by simpa [FrameBuffer.ready] using hb.ready) }
  ready := hb.ready

theorem bufferGood_cleared (c : Config) (rssi freq : Rat) : BufferGood c (FrameBuffer.cleared rssi freq) where
  flags := .inl rfl
  progress := le_refl 0
  canonical := List.Pairwise.nil
  inside := by simp [FrameBuffer.cleared]
  ready_size := by simp [FrameBuffer.cleared]
  ready_written := by simp [FrameBuffer.cleared, Written]

/-! ### Updates outside a frame -/

/-- Between frames the front buffer may be any that the block may work in. -/
theorem Good.replaceFront (g : Good c s) (hb : betweenFrames s = true) {b : FrameBuffer} (hf : FrontGood c b) : Good c (setFrontBuf b s) := by
  obtain ⟨hr, ht⟩ := betweenFrames_iff.mp hb
  exact {
    spec := { g.spec with
      inv4 := by simpa using hf.ready
      inv8 := by simpa using g.spec.inv8 }
    working := { g.working with
      buf_front := by simpa using hf.good
      buf_back := by simpa using g.working.buf_back
      rx_armed := by simp [hr]
      rx_preamble := by simp [hr]
      rx_body := by simp [hr]
      tx_frame := by simp [ht]
      tx_training := by simp [ht]
      tx_preamble := by simp [ht] } }

/-- The back buffer and the drain mark, which asks for a ready buffer (INV8). -/
theorem Good.replaceBack (g : Good c s) {b : FrameBuffer} (hb : BufferGood c b) {pending : Bool} (hp : pending = true → b.ready = true) :
    Good c { setBackBuf b s with drainPending := pending } where
  spec := { g.spec with
    inv4 := (congrArg FrameBuffer.ready (frontBuf_setBackBuf b s)).trans g.spec.inv4
    inv8 := fun h => (congrArg FrameBuffer.ready (backBuf_setBackBuf b s)).trans (hp h) }
  working := by
    have hf : frontBuf { setBackBuf b s with drainPending := pending } = frontBuf s := frontBuf_setBackBuf b s
    have hk : backBuf { setBackBuf b s with drainPending := pending } = b := backBuf_setBackBuf b s
    exact { g.working with
      buf_front := hf.symm ▸ g.working.buf_front
      buf_back := hk.symm ▸ hb
      rx_armed := hf.symm ▸ g.working.rx_armed
      rx_preamble := hf.symm ▸ g.working.rx_preamble
      rx_body := hf.symm ▸ g.working.rx_body
      tx_frame := hf.symm ▸ g.working.tx_frame
      tx_training := hf.symm ▸ g.working.tx_training
      tx_preamble := hf.symm ▸ g.working.tx_preamble }

/-- Between frames the mode may change: a mode with a direction needs its plan (INV11), sync detection is armed in Receiving alone (INV1), and the chip is off in Off (INV10). -/
theorem Good.changeMode (g : Good c s) (hb : betweenFrames s = true) {m : Mode} {ce armed : Bool} (hrx : m = .receiving → s.planRx ≠ none)
    (htx : m = .transmitting → s.planTx ≠ none) (ha : armed = true → m = .receiving) (hce : m = .off → ce = false) :
    Good c { s with mode := m, ce := ce, syncArmed := armed } := by
  obtain ⟨hr, ht⟩ := betweenFrames_iff.mp hb
  exact {
    spec := { g.spec with
      inv1 := fun h => ⟨ha h, hr, ht, g.byteclk_off hb⟩
      inv5 := fun h => absurd ht h
      inv6 := fun h => absurd hr h
      inv10 := fun h => ⟨hce h, Bool.eq_false_iff.mpr fun h' => by simpa [show m = .off from h] using ha h', g.byteclk_off hb, hr, ht⟩
      inv11 := ⟨hrx, htx⟩ }
    working := { g.working with } }

/-- A frame may end at any time: both sub-states idle and the byte clock off (INV2). -/
theorem Good.endFrame (g : Good c s) : Good c { s with rxState := .idle, txState := .idle, byteclkEn := false } where
  spec := { g.spec with
    inv1 := fun h => ⟨(g.spec.inv1 h).1, rfl, rfl, rfl⟩
    inv2 := by simp
    inv3 := .inl rfl
    inv5 := fun h => absurd rfl h
    inv6 := fun h => absurd rfl h
    inv10 := fun h => by
      obtain ⟨hce, harmed, -⟩ := g.spec.inv10 h
      exact ⟨hce, harmed, rfl, rfl, rfl⟩ }
  working := { g.working with
    rx_armed := by simp
    rx_preamble := by simp
    rx_body := by simp
    tx_frame := by simp
    tx_training := by simp
    tx_preamble := by simp }

/-- The preamble index counts while a frame is sent. -/
theorem Good.setPreIdx (g : Good c s) (ht : s.txState = .idle) (p : Nat) : Good c { s with preIdx := p } :=
  ⟨{ g.spec with }, { g.working with tx_preamble := by simp [ht] }⟩

/-! ### Plans, images and counters, at any time -/

theorem Good.setXtal (g : Good c s) {x : Nat} (hx : 0 < x) : Good c { s with xtalHz := x } :=
  ⟨{ g.spec with }, { g.working with xtal := hx }⟩

theorem Good.setQuarantine (g : Good c s) {q : Nat} (hq : q ≤ c.quarantineMax) : Good c { s with quarantine := q } :=
  ⟨{ g.spec with inv7 := hq }, { g.working with }⟩

/-- Register writes of a list keep every image word at its own address (INV9). -/
theorem Good.setSys (g : Good c s) (l : List (RegAddr × Nat)) : Good c { s with sys := sysAfter s.sys l } where
  spec := { g.spec with
    inv9 := by
      have hsys := sysAfter_addr (l := l) fun a v h => g.spec.inv9 a v (.inr (.inr h))
      rintro a v (h | h | h)
      · exact g.spec.inv9 a v (.inl h)
      · exact g.spec.inv9 a v (.inr (.inl h))
      · exact hsys a v h }
  working := { g.working with }

/-- A staged sequence holds each word at its own address, if the image did (R21). -/
theorem stageAll_addr {pack : RegAddr → Nat} {l : List RegAddr} {m : Image} (h : ∀ a v, imageAt m a = some v → addrOf v = a) :
    ∀ a v, imageAt (stageAll pack l m) a = some v → addrOf v = a := by
  intro a v hv
  rw [imageAt_stageAll] at hv
  split at hv
  · cases hv; exact addrOf_staged a _
  · exact h a v hv

theorem staged_stageAll (pack : RegAddr → Nat) (l : List RegAddr) (m : Image) : Staged (stageAll pack l m) l := by
  intro a ha
  simp [imageAt_stageAll, ha]

/-- A new RX plan, its sequence staged (R175). -/
theorem Good.setPlanRx (g : Good c s) {p : ChannelPlan} (hp : PlanInRange p) (pack : RegAddr → Nat) :
    Good c { s with planRx := some p, stageRx := stageAll pack c.rxSeq s.stageRx } where
  spec := { g.spec with
    inv9 := by
      have hstage := stageAll_addr (pack := pack) (l := c.rxSeq) fun a v h => g.spec.inv9 a v (.inl h)
      rintro a v (h | h)
      · exact hstage a v h
      · exact g.spec.inv9 a v (.inr h)
    inv11 := ⟨fun _ => Option.some_ne_none p, g.spec.inv11.2⟩ }
  working := { g.working with
    staged_rx := fun _ => staged_stageAll pack c.rxSeq s.stageRx
    plan_rx := by rintro _ ⟨⟩; exact hp
    tx_frame := fun h => by
      obtain ⟨hsize, hwritten, -⟩ := g.working.tx_frame h
      exact ⟨hsize, hwritten, Option.some_ne_none p⟩ }

/-- A new TX plan, its sequence and the PA staged (R176). -/
theorem Good.setPlanTx (g : Good c s) {p : ChannelPlan} (hp : PlanInRange p) (pack : RegAddr → Nat) (pa : Nat) :
    Good c { s with planTx := some p, stageTx := imageSet (stageAll pack c.txSeq s.stageTx) c.regPa (staged c.regPa pa) } where
  spec := { g.spec with
    inv9 := by
      have hstage := stageAll_addr (pack := pack) (l := c.txSeq) fun a v h => g.spec.inv9 a v (.inr (.inl h))
      rintro a v (h | h | h)
      · exact g.spec.inv9 a v (.inl h)
      · simp only [imageAt_imageSet] at h
        split at h
        · next ha => cases h; rw [ha]; exact addrOf_staged _ _
        · exact hstage a v h
      · exact g.spec.inv9 a v (.inr (.inr h))
    inv11 := ⟨g.spec.inv11.1, fun _ => Option.some_ne_none p⟩ }
  working := { g.working with
    staged_tx := fun _ => by
      refine ⟨fun a ha => ?_, by simp [imageAt_imageSet]⟩
      simp only [imageAt_imageSet]
      split
      · exact Option.some_ne_none _
      · exact staged_stageAll pack c.txSeq s.stageTx a ha
    plan_tx := by rintro _ ⟨⟩; exact hp }

/-! ### The frame in progress -/

/-- Where the front buffer's counters stand in each RX sub-state (R250 to R254). -/
def RxPlace (c : Config) (ft : FrameType) (b : FrameBuffer) : RxState → Prop
  | .idle => False
  | .armed => b.progress = 0 ∧ b.size = c.rxPrefixLen + 1
  | .preamble => 1 ≤ b.progress ∧ b.progress ≤ c.rxPrefixLen ∧ b.size = c.rxPrefixLen + 1
  | .body => b.size = c.frameLen ft ∧ b.progress < b.size ∧ Written b b.progress

/-- A frame begins or goes on in reception. -/
theorem Good.receive (g : Good c s) (hm : s.mode = .receiving) (ht : s.txState = .idle) {b : FrameBuffer} (hf : FrontGood c b) {ft : FrameType} {r : RxState}
    (hp : RxPlace c ft b r) : Good c { setFrontBuf b s with ftype := ft, rxState := r, syncArmed := false, byteclkEn := true } := by
  have hr : r ≠ .idle := by rintro rfl; exact hp
  have hfront : frontBuf { setFrontBuf b s with ftype := ft, rxState := r, syncArmed := false, byteclkEn := true } = b := frontBuf_setFrontBuf b s
  have hback : backBuf { setFrontBuf b s with ftype := ft, rxState := r, syncArmed := false, byteclkEn := true } = backBuf s := backBuf_setFrontBuf b s
  exact {
    spec := { g.spec with
      inv1 := by simp
      inv2 := by simp [hr]
      inv3 := .inr ht
      inv4 := hfront.symm ▸ hf.ready
      inv6 := fun _ => hm
      inv8 := hback.symm ▸ g.spec.inv8
      inv10 := by simp [hm] }
    working := { g.working with
      buf_front := hfront.symm ▸ hf.good
      buf_back := hback.symm ▸ g.working.buf_back
      rx_armed := by rw [hfront]; rintro rfl; exact hp
      rx_preamble := by rw [hfront]; rintro rfl; exact hp
      rx_body := by rw [hfront]; rintro rfl; exact hp
      tx_frame := fun h => absurd ht h
      tx_training := by simp [ht]
      tx_preamble := by simp [ht] } }

/-- Where the front buffer's counters and the preamble index stand in each TX sub-state (R256 to R258, R271). -/
structure TxPlace (c : Config) (ft : FrameType) (b : FrameBuffer) (p : Nat) (r : TxState) : Prop where
  busy : r ≠ .idle
  size : b.size = c.frameLen ft
  written : Written b b.size
  training : r = .training → 1 ≤ b.trainingRemaining ∧ b.progress = 0
  preamble : r = .preamble → p ≤ c.callsign.length ∧ b.progress = 0

theorem Good.txPlace (g : Good c s) (ht : s.txState ≠ .idle) : TxPlace c s.ftype (frontBuf s) s.preIdx s.txState := by
  obtain ⟨hsize, hwritten, -⟩ := g.working.tx_frame ht
  exact ⟨ht, hsize, hwritten, g.working.tx_training, g.working.tx_preamble⟩

/-- A frame in transmission came from Receiving, so it has an RX plan to return to (R259). -/
theorem Good.planRx_of_tx (g : Good c s) (ht : s.txState ≠ .idle) : s.planRx ≠ none := by
  obtain ⟨-, -, hplan⟩ := g.working.tx_frame ht
  exact hplan

/-- A frame begins or goes on in transmission. -/
theorem Good.send (g : Good c s) (hm : s.mode = .transmitting) (hr : s.rxState = .idle) (hrx : s.planRx ≠ none) {b : FrameBuffer} (hf : FrontGood c b)
    {ft : FrameType} {p : Nat} {r : TxState} (hp : TxPlace c ft b p r) :
    Good c { setFrontBuf b s with ftype := ft, txState := r, preIdx := p, byteclkEn := true } := by
  have hfront : frontBuf { setFrontBuf b s with ftype := ft, txState := r, preIdx := p, byteclkEn := true } = b := frontBuf_setFrontBuf b s
  have hback : backBuf { setFrontBuf b s with ftype := ft, txState := r, preIdx := p, byteclkEn := true } = backBuf s := backBuf_setFrontBuf b s
  exact {
    spec := { g.spec with
      inv1 := fun h => by simpa [hm] using (g.spec.inv1 h).1
      inv2 := by simp [hp.busy]
      inv3 := .inl hr
      inv4 := hfront.symm ▸ hf.ready
      inv5 := fun _ => hm
      inv8 := hback.symm ▸ g.spec.inv8
      inv10 := by simp [hm] }
    working := { g.working with
      buf_front := hfront.symm ▸ hf.good
      buf_back := hback.symm ▸ g.working.buf_back
      rx_armed := by simp [hr]
      rx_preamble := by simp [hr]
      rx_body := by simp [hr]
      tx_frame := fun _ => hfront.symm ▸ ⟨hp.size, hp.written, hrx⟩
      tx_training := hfront.symm ▸ hp.training
      tx_preamble := hfront.symm ▸ hp.preamble } }

/-- The handover of a received frame between frames: the front buffer, marked ready, changes places with a back buffer that is not ready (R255). -/
theorem Good.handOver (g : Good c s) (hb : betweenFrames s = true) (hback : (backBuf s).ready = false) {b : FrameBuffer} (hf : BufferGood c b)
    (hready : b.ready = true) : Good c { setFrontBuf b s with front := backIndex s } := by
  obtain ⟨hr, ht⟩ := betweenFrames_iff.mp hb
  have hnewFront : frontBuf { setFrontBuf b s with front := backIndex s } = backBuf s := (frontBuf_swap _).trans (backBuf_setFrontBuf b s)
  have hnewBack : backBuf { setFrontBuf b s with front := backIndex s } = b := (backBuf_swap _).trans (frontBuf_setFrontBuf b s)
  exact {
    spec := { g.spec with
      inv4 := hnewFront.symm ▸ hback
      inv8 := fun _ => hnewBack.symm ▸ hready }
    working := { g.working with
      buf_front := hnewFront.symm ▸ g.working.buf_back
      buf_back := hnewBack.symm ▸ hf
      rx_armed := by simp [hr]
      rx_preamble := by simp [hr]
      rx_body := by simp [hr]
      tx_frame := by simp [ht]
      tx_training := by simp [ht]
      tx_preamble := by simp [ht] } }

/-! ### Reset -/

/-- The reset state is good, whatever the values R60 leaves unspecified. -/
theorem good_reset (c : Config) (r0 f0 r1 f1 : Rat) (ft : FrameType) :
    Good c { State.resetOf c with buf := #v[FrameBuffer.cleared r0 f0, FrameBuffer.cleared r1 f1], ftype := ft } where
  spec := {
    inv1 := by simp [State.resetOf]
    inv2 := by simp [State.resetOf]
    inv3 := .inl rfl
    inv4 := by simp [frontBuf, State.resetOf, FrameBuffer.ready, FrameBuffer.cleared]
    inv5 := by simp [State.resetOf]
    inv6 := by simp [State.resetOf]
    inv7 := Nat.zero_le _
    inv8 := by simp [State.resetOf]
    inv9 := by simp [State.resetOf]
    inv10 := fun _ => ⟨rfl, rfl, rfl, rfl, rfl⟩
    inv11 := by simp [State.resetOf] }
  working := {
    xtal := c.valid.xtal_pos
    staged_rx := by simp [State.resetOf]
    staged_tx := by simp [State.resetOf]
    plan_rx := by simp [State.resetOf]
    plan_tx := by simp [State.resetOf]
    buf_front := bufferGood_cleared c r0 f0
    buf_back := bufferGood_cleared c r1 f1
    rx_armed := by simp [State.resetOf]
    rx_preamble := by simp [State.resetOf]
    rx_body := by simp [State.resetOf]
    tx_frame := by simp [State.resetOf]
    tx_training := by simp [State.resetOf]
    tx_preamble := by simp [State.resetOf] }

end Sys2Proof.Safety
end

section
/-! PROOFS. What every instruction does to a good state: it completes in a good state whose outputs follow its mode, or stops with one of the spec's own faults (R30, R50, R61, R333). -/

namespace Sys2Proof.Safety

open Sys2Proof.Machine Sys2Proof.Proofs

variable {c : Config} {s t u : State} {f : Fault} {r : Except Fault State}

/-! ### The outcomes asked for -/

/-- A good state to come to from `s`: good, and its outputs follow its mode if those of `s` did. -/
structure GoodNext (c : Config) (s t : State) : Prop where
  good : Good c t
  outputs : OutputsFollowMode s → OutputsFollowMode t

/-- A fault other than the two a good state never meets: no rule for the state, and an unwritten cell. -/
structure SpecFault (f : Fault) : Prop where
  ruled : f ≠ .noRule
  written : f ≠ .unwritten

/-- An operation from `s` that ends in a good state or in one of the spec's faults. -/
def StaysGood (c : Config) (s : State) : Except Fault State → Prop
  | .ok t => GoodNext c s t
  | .error f => SpecFault f

/-- An operation from `s` that always ends in a good state. -/
def Completes (c : Config) (s : State) (r : Except Fault State) : Prop := ∃ t, r = .ok t ∧ GoodNext c s t

/-- The outputs and the mode where they were. -/
theorem GoodNext.still (g : Good c t) (hm : t.mode = s.mode) (hce : t.ce = s.ce) (htr : t.trsw = s.trsw) : GoodNext c s t :=
  ⟨g, fun o => ⟨by rw [hm, hce]; exact o.ce, by rw [hm, htr]; exact o.trsw⟩⟩

theorem GoodNext.trans (n : GoodNext c s t) (n' : GoodNext c t u) : GoodNext c s u := ⟨n'.good, fun o => n'.outputs (n.outputs o)⟩

theorem GoodNext.answer (n : GoodNext c s t) (st : Status) (res : Option Result) : GoodNext c s (answer st res t) :=
  n.trans (.still (n.good.congr rfl) rfl rfl rfl)

theorem emit_next (g : Good c s) (n : Notice) : GoodNext c s (emit n s) := .still (g.congr rfl) rfl rfl rfl

theorem Good.quietNext (g : Good c s) (h : Quiet s t) : GoodNext c s t := by
  obtain ⟨_, _, _, rfl⟩ := h
  exact .still (g.congr rfl) rfl rfl rfl

theorem StaysGood.ok (h : StaysGood c s r) (hr : r = .ok t) : GoodNext c s t := by
  subst hr
  exact h

theorem StaysGood.error (h : StaysGood c s r) (hr : r = .error f) : SpecFault f := by
  subst hr
  exact h

theorem StaysGood.after (h : StaysGood c t r) (n : GoodNext c s t) : StaysGood c s r := by
  cases r with
  | ok u => exact n.trans h
  | error f => exact h

theorem Completes.staysGood (h : Completes c s r) : StaysGood c s r := by
  obtain ⟨t, rfl, n⟩ := h
  exact n

theorem specFault_range : SpecFault .range := ⟨nofun, nofun⟩
theorem specFault_busOff : SpecFault .busOff := ⟨nofun, nofun⟩
theorem specFault_noPlan : SpecFault .noPlan := ⟨nofun, nofun⟩
theorem specFault_modeMidFrame : SpecFault .modeMidFrame := ⟨nofun, nofun⟩
theorem specFault_seqShort : SpecFault .seqShort := ⟨nofun, nofun⟩

theorem Good.staysGood_of_endsQuietly (g : Good c s) (h : EndsQuietly s r) : StaysGood c s r := by
  cases r with
  | ok t => exact g.quietNext h
  | error f =>
    obtain rfl | rfl | rfl := h
    · exact specFault_range
    · exact specFault_busOff
    · exact specFault_seqShort

theorem Good.staysGood_of_isQuery {i : Instr} (g : Good Config.actual s) (hi : isQuery i = true) :
    ∃ r, exec i s = finish r ∧ StaysGood Config.actual s r := by
  obtain ⟨r, hr, hq⟩ := exec_of_isQuery hi s
  exact ⟨r, hr, g.staysGood_of_endsQuietly hq⟩

theorem StaysGood.thenOk (h : StaysGood c s r) : StaysGood c s (thenOk r) := by
  cases r with
  | ok t => exact GoodNext.answer h .ok none
  | error f => exact h

/-! ### Power (R171, R172) -/

theorem powerOnCommand_staysGood (g : Good c s) (xtal : Word) : StaysGood c s (powerOnCommand c xtal s) := by
  unfold powerOnCommand
  simp only [releaseTr_eq, writeSys_eq]
  split
  · exact specFault_range
  · next hx =>
    split
    · exact specFault_modeMidFrame
    · next hb =>
      have hb : betweenFrames s = true := not_not.mp hb
      refine ⟨?_, fun _ => ⟨by simp, by simp⟩⟩
      have g1 := (g.setXtal (Nat.pos_of_ne_zero hx)).setSys (c.powerOnSeq xtal.toNat).toList
      exact (g1.changeMode hb (m := .idle) (ce := true) (armed := false) nofun nofun nofun nofun).congr (by simp [invariantPart, g.byteclk_off hb])

/-- The frame that POWER_OFF abandons is at its end, its counters cleared. -/
theorem Good.abandonFrame (g : Good c s) : Good c { abandonFrame s with rxState := .idle, txState := .idle, byteclkEn := false } := by
  unfold Machine.abandonFrame
  split
  · exact g.endFrame
  · exact (g.endFrame.replaceFront rfl (g.frontGood.withCounters 0 (le_refl 0))).congr rfl

theorem powerOffCommand_staysGood (g : Good c s) : StaysGood c s (powerOffCommand s) := by
  unfold powerOffCommand
  simp only [releaseTr_eq]
  split
  · exact g.quietNext (quiet_answer _ _ s)
  · refine ⟨?_, fun _ => ⟨by simp, by simp⟩⟩
    exact ((g.abandonFrame.setPreIdx rfl 0).changeMode rfl (m := .off) (ce := false) (armed := false) nofun nofun nofun fun _ => rfl).congr rfl

/-! ### Configuration (R174 to R176) -/

/-- The divider the search finds is a candidate that is not rejected (R148). -/
theorem searchDivider_some {xtal k w : Nat} {rate : Rat} (h : searchDivider xtal rate k = some w) : w ∈ candidateDividers ∧ rejected xtal rate k w = false := by
  have key : ∀ (l : List Nat) (best : Option Nat), l.foldl (better xtal rate k) best = some w → best = some w ∨ (w ∈ l ∧ rejected xtal rate k w = false) := by
    intro l
    induction l with
    | nil => exact fun _ => .inl
    | cons d l ih =>
      intro best hbest
      obtain hd | ⟨hw, hrej⟩ := ih _ hbest
      · unfold better at hd
        split at hd
        · exact .inl hd
        next hrej =>
          have hd' : rejected xtal rate k d = false := Bool.eq_false_iff.mpr hrej
          split at hd
          · cases hd; exact .inr ⟨List.mem_cons_self, hd'⟩
          · split at hd
            · cases hd; exact .inr ⟨List.mem_cons_self, hd'⟩
            · exact .inl hd
      · exact .inr ⟨List.mem_cons_of_mem d hw, hrej⟩
  obtain h | h := key _ _ h
  · cases h
  · exact h

theorem planInRange_channelPlan {xtal freq : Nat} {rate h : Rat} {p : PlannerResult} (hp : planClocks c xtal rate h = some p) (d : Dir) :
    PlanInRange (channelPlan c xtal d rate h freq p) := by
  obtain ⟨-, -, -, -, hsearch, hcdr, hdisc, -⟩ := planClocks_some hp
  obtain ⟨hmem, hrej⟩ := searchDivider_some hsearch
  obtain ⟨hd, hc, hc0⟩ := not_rejected.mp hrej
  exact {
    dem := mem_candidateDividers.mp hmem
    cdr := ⟨Nat.one_le_iff_ne_zero.mpr (hcdr.trans_ne hc0), hcdr.trans_le hc⟩
    disc := hdisc.trans_le hd }

theorem configurePlan_cases (c : Config) (d : Dir) (rate h : Rat) (freq : Nat) (s : State) :
    configurePlan c d rate h freq s = .error .range ∨ configurePlan c d rate h freq s = .ok none
      ∨ ∃ p, configurePlan c d rate h freq s = .ok (some p) ∧ PlanInRange p := by
  unfold configurePlan
  split
  · split
    · exact .inr (.inl rfl)
    · next hp => exact .inr (.inr ⟨_, rfl, planInRange_channelPlan hp d⟩)
  · exact .inl rfl

theorem failPlan_next (g : Good c s) (d : Dir) : GoodNext c s (failPlan d s) := by
  cases d
  · exact .still (g.congr rfl) rfl rfl rfl
  · exact .still (g.congr rfl) rfl rfl rfl

theorem configureRx_staysGood (g : Good c s) (rate h : Rat) (freq ifbw : Nat) : StaysGood c s ((configureRx c rate h freq ifbw s).map Prod.snd) := by
  unfold configureRx
  obtain hp | hp | ⟨p, hp, hrange⟩ := configurePlan_cases c .rx rate h freq s
  · simp only [hp]; exact specFault_range
  · simp only [hp]; exact failPlan_next g .rx
  · simp only [hp]
    have hplan : PlanInRange { p with derived := { p.derived with ifBwClass := maskIfbw c ifbw } } := ⟨hrange.dem, hrange.cdr, hrange.disc⟩
    exact GoodNext.still ((g.setPlanRx hplan _).congr rfl) rfl rfl rfl

theorem configureTx_staysGood (g : Good c s) (rate h : Rat) (freq : Nat) : StaysGood c s ((configureTx c rate h freq s).map Prod.snd) := by
  unfold configureTx
  obtain hp | hp | ⟨p, hp, hrange⟩ := configurePlan_cases c .tx rate h freq s
  · simp only [hp]; exact specFault_range
  · simp only [hp]; exact failPlan_next g .tx
  · simp only [hp]
    exact .still ((g.setPlanTx hrange _ _).congr rfl) rfl rfl rfl

theorem configureRxCommand_staysGood (g : Good c s) (rate h : RatArg) (freq : Word) (ifbw : Byte) : StaysGood c s (configureRxCommand c rate h freq ifbw s) := by
  have hc := configureRx_staysGood g (ratValue rate) (ratValue h) freq.toNat ifbw.toNat
  unfold configureRxCommand
  split
  · exact g.quietNext (quiet_answer _ _ s)
  · split
    · next he => exact hc.error (congrArg _ he)
    · next he => exact (hc.ok (congrArg _ he)).answer _ _

theorem configureTxCommand_staysGood (g : Good c s) (rate h : RatArg) (freq : Word) : StaysGood c s (configureTxCommand c rate h freq s) := by
  have hc := configureTx_staysGood g (ratValue rate) (ratValue h) freq.toNat
  unfold configureTxCommand
  split
  · exact g.quietNext (quiet_answer _ _ s)
  · split
    · next he => exact hc.error (congrArg _ he)
    · next he => exact (hc.ok (congrArg _ he)).answer _ _

/-! ### Mode switches (R177 to R179) -/

theorem busOk_iff : busOk s = true ↔ s.mode ≠ .off := by
  simp [busOk]

theorem rxModeSwitch_completes (g : Good c s) (hb : betweenFrames s = true) (hon : s.mode ≠ .off) (hp : s.planRx ≠ none) :
    Completes c s (rxModeSwitch c s) := by
  refine ⟨_, rxModeSwitch_eq (g.working.staged_rx hp), ?_, fun o => ⟨by simpa using o.ce.mpr hon, by simp⟩⟩
  exact (g.changeMode hb (m := .receiving) (ce := s.ce) (armed := true) (fun _ => hp) nofun (fun _ => rfl) nofun).congr rfl

theorem txModeSwitch_completes (g : Good c s) (hb : betweenFrames s = true) (hon : s.mode ≠ .off) (hp : s.planTx ≠ none) :
    Completes c s (txModeSwitch c s) := by
  obtain ⟨hstaged, hpa⟩ := g.working.staged_tx hp
  refine ⟨_, txModeSwitch_eq hstaged hpa, ?_, fun o => ⟨by simpa using o.ce.mpr hon, by simp⟩⟩
  exact (g.changeMode hb (m := .transmitting) (ce := s.ce) (armed := false) nofun (fun _ => hp) nofun nofun).congr rfl

theorem setRxMode_staysGood (g : Good c s) : StaysGood c s (setRxMode c s) := by
  unfold setRxMode
  split
  · exact specFault_busOff
  next hbus =>
  split
  · exact specFault_noPlan
  next hp =>
  split
  · exact specFault_modeMidFrame
  next hb =>
    exact (rxModeSwitch_completes g (not_not.mp hb) (busOk_iff.mp (not_not.mp hbus)) hp).staysGood

theorem setTxMode_staysGood (g : Good c s) : StaysGood c s (setTxMode c s) := by
  unfold setTxMode
  split
  · exact specFault_busOff
  next hbus =>
  split
  · exact specFault_noPlan
  next hp =>
  split
  · exact specFault_modeMidFrame
  next hb =>
    exact (txModeSwitch_completes g (not_not.mp hb) (busOk_iff.mp (not_not.mp hbus)) hp).staysGood

/-! ### Sync word, AFC and RECONFIGURE (R180 to R182, R188) -/

theorem setSyncWord_staysGood (g : Good c s) (word len tol : Nat) : StaysGood c s (setSyncWord c word len tol s) := by
  unfold setSyncWord
  rw [writeSys_eq]
  split
  · exact specFault_busOff
  · exact GoodNext.still ((g.setSys _).congr rfl) rfl rfl rfl

theorem enableAfc_staysGood (g : Good c s) (range ki kp : Nat) : StaysGood c s (enableAfc c range ki kp s) := by
  unfold enableAfc
  rw [writeSys_eq]
  split
  · exact specFault_busOff
  · exact GoodNext.still ((g.setSys _).congr rfl) rfl rfl rfl

theorem disableAfc_staysGood (g : Good c s) : StaysGood c s (disableAfc c s) := by
  unfold disableAfc
  simp only [writeSys_eq]
  split
  · exact specFault_busOff
  · exact GoodNext.still ((g.setSys _).congr rfl) rfl rfl rfl

theorem reconfigureAfc_staysGood (g : Good c s) : StaysGood c s (reconfigureAfc c s) := by
  unfold reconfigureAfc
  split
  · exact enableAfc_staysGood g _ _ _
  · exact disableAfc_staysGood g

/-- Each part of RECONFIGURE runs in the good state the part before it left. -/
theorem reconfigureCommand_staysGood (g : Good c s) : StaysGood c s (reconfigureCommand c s) := by
  unfold reconfigureCommand
  split
  · exact specFault_busOff
  split
  · exact specFault_modeMidFrame
  have hsync := setSyncWord_staysGood g s.cfg.syncWord s.cfg.syncLen s.cfg.syncTol
  split
  · next he => exact hsync.error he
  next s1 h1 =>
  have n1 := hsync.ok h1
  have hrx := configureRx_staysGood n1.good s1.cfg.bitrate s1.cfg.modIndex s1.cfg.rxFreq s1.cfg.ifBwClass
  split
  · next he => exact hrx.error (congrArg _ he)
  next okRx s2 h2 =>
  have n2 := n1.trans (hrx.ok (congrArg _ h2))
  have htx := configureTx_staysGood n2.good s2.cfg.bitrate s2.cfg.modIndex s2.cfg.txFreq
  split
  · next he => exact htx.error (congrArg _ he)
  next okTx s3 h3 =>
  have n3 := n2.trans (htx.ok (congrArg _ h3))
  split
  · next he => exact (reconfigureAfc_staysGood n3.good).error he
  next s4 h4 =>
  have n4 := n3.trans ((reconfigureAfc_staysGood n3.good).ok h4)
  split
  · next he => exact (setRxMode_staysGood n4.good).error he
  next s5 h5 => exact (n4.trans ((setRxMode_staysGood n4.good).ok h5)).answer _ _

/-! ### Reception (R250 to R255) -/

/-- Sync detection armed again after a frame in reception, whatever was left of it. -/
theorem Good.rearm (g : Good c s) (hm : s.mode = .receiving) (ht : s.txState = .idle) : Good c (rearm s) :=
  (g.endFrame.changeMode rfl (m := .receiving) (ce := s.ce) (armed := true) (fun _ => g.spec.inv11.1 hm) nofun (fun _ => rfl) nofun).congr
    (by simp [invariantPart, hm, ht])

theorem Good.dropFront (g : Good c s) (hb : betweenFrames s = true) : Good c (dropFront s) :=
  g.replaceFront hb (g.frontGood.withCounters _ (le_refl 0))

theorem syncDetect_next (g : Good c s) (ha : s.syncArmed = true) : GoodNext c s (syncDetect c s) := by
  obtain ⟨hm, -, ht, -⟩ := g.spec.inv1 ha
  have hplace : RxPlace c s.ftype { frontBuf s with progress := 0, size := c.rxPrefixLen + 1 } .armed := ⟨rfl, rfl⟩
  exact .still ((g.receive hm ht (g.frontGood.withCounters _ (Nat.zero_le _)) hplace).congr rfl) rfl rfl rfl

theorem prefixCheck_next (g : Good c s) (hm : s.mode = .receiving) (ht : s.txState = .idle) : GoodNext c s (prefixCheck s) := by
  unfold prefixCheck
  split
  · exact .still (((g.rearm hm ht).dropFront (betweenFrames_iff.mpr ⟨rfl, ht⟩)).congr rfl) rfl rfl rfl
  · exact .still g rfl rfl rfl

theorem prefixByte_next (g : Good c s) (hr : s.rxState ≠ .idle) (hsize : (frontBuf s).size = c.rxPrefixLen + 1)
    (hp : (frontBuf s).progress < c.rxPrefixLen) (b : Byte) : GoodNext c s (prefixByte c b s) := by
  have hm := g.spec.inv6 hr
  have ht := g.tx_idle_of_rx hr
  obtain ⟨hclk, hsync⟩ := g.enables_midFrame (.inl hr)
  have hplace : RxPlace c s.ftype { frontBuf s with progress := (frontBuf s).progress + 1 } .preamble := ⟨Nat.succ_pos _, hp, hsize⟩
  have hfront : FrontGood c { frontBuf s with progress := (frontBuf s).progress + 1 } := g.frontGood.withCounters _ (by omega)
  have hnext : GoodNext c s { setFrontBuf { frontBuf s with progress := (frontBuf s).progress + 1 } s with
      rxErr := s.rxErr + hd b ((callsignTail c).getD (frontBuf s).progress 0), rxState := .preamble } :=
    .still ((g.receive hm ht hfront hplace).congr (by simp [invariantPart, hclk, hsync])) rfl rfl rfl
  unfold prefixByte
  simp only
  split
  · exact hnext.trans (prefixCheck_next hnext.good hm ht)
  · exact hnext

theorem markerByte_next (g : Good c s) (hr : s.rxState ≠ .idle) (b : Byte) : GoodNext c s (markerByte c b s) := by
  obtain ⟨hclk, hsync⟩ := g.enables_midFrame (.inl hr)
  have hplace : RxPlace c (classify b) { frontBuf s with size := c.frameLen (classify b), progress := 0 } .body :=
    ⟨rfl, (frameLen_bounds c _).1, by simp [Written]⟩
  exact .still ((g.receive (g.spec.inv6 hr) (g.tx_idle_of_rx hr) (g.frontGood.withCounters _ (Nat.zero_le _)) hplace).congr
    (by simp [markerByte, invariantPart, hclk, hsync])) rfl rfl rfl

/-- A completed frame is handed over where the back buffer is free, and dropped where it is not. -/
theorem Good.rxComplete (g : Good c (Machine.rearm s)) (ht : s.txState = .idle) (hsize : (frontBuf s).size ≤ c.maxPayload)
    (hw : Written (frontBuf s) (frontBuf s).size) : Good c (rxComplete s) := by
  have hb : betweenFrames (Machine.rearm s) = true := betweenFrames_iff.mpr ⟨rfl, ht⟩
  have hfront : BufferGood c (frontBuf s) := g.working.buf_front
  unfold Machine.rxComplete
  split
  · exact (g.dropFront hb).congr rfl
  · next hready =>
    have hflags : (frontBuf s).flags = 0x00#8 := by
      have hnot : (frontBuf s).flags.getLsbD 0 = false := g.spec.inv4
      obtain h | h := hfront.flags
      · exact h
      · simp [h] at hnot
    have hhanded : BufferGood c { frontBuf s with flags := setReady (frontBuf s).flags } :=
      { hfront with
        flags := .inr (by simp only [hflags]; rfl)
        ready_size := fun _ => hsize
        ready_written := fun _ => hw }
    exact (g.handOver hb (Bool.eq_false_iff.mpr hready) hhanded (ready_setReady _)).congr rfl

theorem rxComplete_still (s : State) : (rxComplete s).mode = s.mode ∧ (rxComplete s).ce = s.ce ∧ (rxComplete s).trsw = s.trsw := by
  unfold rxComplete
  split <;> exact ⟨rfl, rfl, rfl⟩

/-- The front buffer with a body byte stored (R254). -/
def storeByte (f : FrameBuffer) (b : Byte) : FrameBuffer := { f with payload := Memory.write f.payload f.progress b, progress := f.progress + 1 }

/-- A body byte within the buffer is stored, and completes the frame where it is the last. -/
theorem bodyByte_eq (b : Byte) (h : (frontBuf s).progress < c.maxPayload) :
    bodyByte c b s = .ok (if (frontBuf s).progress + 1 = (frontBuf s).size then rxComplete (setFrontBuf (storeByte (frontBuf s) b) s)
      else setFrontBuf (storeByte (frontBuf s) b) s) := by
  simp only [bodyByte, writePayload, if_pos h, storeByte]

theorem FrontGood.storeByte {f : FrameBuffer} (hf : FrontGood c f) (hlt : f.progress < f.size) (hmax : f.size ≤ c.maxPayload) (b : Byte) :
    FrontGood c (storeByte f b) := by
  refine (hf.withCounters f.trainingRemaining hlt).withPayload (Memory.write_wf hf.good.canonical f.progress b) fun x hx => ?_
  obtain rfl | hx := Memory.mem_write hx
  · exact hlt.trans_le hmax
  · exact hf.good.inside x hx

theorem storeByte_written {f : FrameBuffer} (hwf : Memory.wf f.payload) (hw : Written f f.progress) (b : Byte) :
    Written (storeByte f b) (f.progress + 1) := by
  intro j hj
  simp only [storeByte, Memory.read_write hwf]
  split
  · simp
  · exact hw j (by omega)

theorem bodyByte_completes (g : Good c s) (hr : s.rxState = .body) (b : Byte) : Completes c s (bodyByte c b s) := by
  have hr' : s.rxState ≠ .idle := by simp [hr]
  have hm := g.spec.inv6 hr'
  have ht := g.tx_idle_of_rx hr'
  obtain ⟨hclk, hsync⟩ := g.enables_midFrame (.inl hr')
  obtain ⟨hsize, hlt, hw⟩ := g.working.rx_body hr
  have hmax : (frontBuf s).size ≤ c.maxPayload := hsize.trans_le (frameLen_bounds c _).2
  have hfront := g.frontGood.storeByte hlt hmax b
  have hnew := storeByte_written g.working.buf_front.canonical hw b
  refine ⟨_, bodyByte_eq b (hlt.trans_le hmax), ?_⟩
  split
  · next hlast =>
    have hrearmed : Good c (Machine.rearm (setFrontBuf (Safety.storeByte (frontBuf s) b) s)) :=
      ((g.rearm hm ht).replaceFront (betweenFrames_iff.mpr ⟨rfl, ht⟩) hfront).congr rfl
    obtain ⟨hmode, hce, htr⟩ := rxComplete_still (setFrontBuf (Safety.storeByte (frontBuf s) b) s)
    refine .still (hrearmed.rxComplete ht ?_ ?_) hmode hce htr
    · rw [frontBuf_setFrontBuf]; exact hmax
    · rw [frontBuf_setFrontBuf]; exact hlast ▸ hnew
  · next hmore =>
    have hplace : RxPlace c s.ftype (Safety.storeByte (frontBuf s) b) .body := ⟨hsize, lt_of_le_of_ne hlt hmore, hnew⟩
    exact .still ((g.receive hm ht hfront hplace).congr (by simp [invariantPart, hr, hclk, hsync])) rfl rfl rfl

theorem Good.prefixPlace (g : Good c s) (hr : s.rxState = .armed ∨ s.rxState = .preamble) :
    (frontBuf s).progress ≤ c.rxPrefixLen ∧ (frontBuf s).size = c.rxPrefixLen + 1 := by
  obtain hr | hr := hr
  · obtain ⟨hp, hs⟩ := g.working.rx_armed hr
    exact ⟨by omega, hs⟩
  · exact (g.working.rx_preamble hr).2

/-- Every byte of a frame in reception has its rule (R251 to R255). -/
theorem rxByte_completes (g : Good c s) (hr : s.rxState ≠ .idle) (b : Byte) : Completes c s (rxByte c b s) := by
  by_cases hbody : s.rxState = .body
  · simpa only [rxByte, hbody] using bodyByte_completes g hbody b
  have hpre : s.rxState = .armed ∨ s.rxState = .preamble := by
    cases h : s.rxState <;> simp_all
  obtain ⟨hp, hsize⟩ := g.prefixPlace hpre
  have hrule : rxByte c b s = .ok (if (frontBuf s).progress < c.rxPrefixLen then prefixByte c b s else markerByte c b s) := by
    unfold rxByte
    obtain h | h := hpre <;> simp only [h]
    all_goals
      split
      · rfl
      · rw [if_pos (by omega)]
  refine ⟨_, hrule, ?_⟩
  split
  · next hlt => exact prefixByte_next g hr hsize hlt b
  · exact markerByte_next g hr b

/-! ### Transmission (R256 to R259) -/

/-- A byte of a frame in transmission: the front buffer, the sub-state and the preamble index move on. -/
theorem Good.sendOn (g : Good c s) (ht : s.txState ≠ .idle) {b : FrameBuffer} (hf : FrontGood c b) {p : Nat} {r : TxState} (hp : TxPlace c s.ftype b p r)
    (hpart : invariantPart t = invariantPart { setFrontBuf b s with txState := r, preIdx := p }) (hm : t.mode = s.mode) (hce : t.ce = s.ce)
    (htr : t.trsw = s.trsw) : GoodNext c s t := by
  have hclk := (g.enables_midFrame (.inr ht)).1
  refine .still ((g.send (g.spec.inv5 ht) (g.rx_idle_of_tx ht) (g.planRx_of_tx ht) hf hp).congr ?_) hm hce htr
  rw [hpart]
  simp [invariantPart, hclk]

theorem trainingByte_completes (g : Good c s) (hts : s.txState = .training) : Completes c s (trainingByte c s) := by
  have ht : s.txState ≠ .idle := by simp [hts]
  obtain ⟨hrem, hprog⟩ := g.working.tx_training hts
  have hplace := g.txPlace ht
  have hfront : FrontGood c { frontBuf s with trainingRemaining := (frontBuf s).trainingRemaining - 1 } :=
    g.frontGood.withCounters _ g.working.buf_front.progress
  unfold trainingByte
  simp only [if_neg (show ¬ (frontBuf s).trainingRemaining = 0 by omega)]
  refine ⟨_, rfl, ?_⟩
  split
  · exact g.sendOn ht hfront (p := 0) (r := .preamble) ⟨nofun, hplace.size, hplace.written, nofun, fun _ => ⟨Nat.zero_le _, hprog⟩⟩ rfl rfl rfl rfl
  · refine g.sendOn ht hfront (p := s.preIdx) (r := .training) ⟨nofun, hplace.size, hplace.written, fun _ => ⟨by simp only; omega, hprog⟩, nofun⟩ ?_ rfl rfl rfl
    simp [invariantPart, hts]

theorem preambleByte_completes (g : Good c s) (hts : s.txState = .preamble) : Completes c s (preambleByte c s) := by
  have ht : s.txState ≠ .idle := by simp [hts]
  obtain ⟨hidx, hprog⟩ := g.working.tx_preamble hts
  have hplace := g.txPlace ht
  have hget : (txPreamble c s.ftype)[s.preIdx]? = some ((txPreamble c s.ftype)[s.preIdx]'(by simp [txPreamble]; omega)) := List.getElem?_eq_getElem _
  have hsame : setFrontBuf (frontBuf s) s = s := by simp [setFrontBuf, frontBuf]
  unfold preambleByte
  simp only [hget]
  refine ⟨_, rfl, ?_⟩
  split
  · exact g.sendOn ht g.frontGood (p := s.preIdx + 1) (r := .body) ⟨nofun, hplace.size, hplace.written, nofun, nofun⟩ (by rw [hsame]; rfl) rfl rfl rfl
  · refine g.sendOn ht g.frontGood (p := s.preIdx + 1) (r := .preamble) ⟨nofun, hplace.size, hplace.written, nofun, fun _ => ⟨by omega, hprog⟩⟩ ?_ rfl rfl rfl
    rw [hsame]
    simp [invariantPart, hts]

/-- The completion of a frame is a switch to RX between frames (R259). -/
theorem txComplete_completes (g : Good c s) (ht : s.txState ≠ .idle) : Completes c s (txComplete c s) := by
  have hm := g.spec.inv5 ht
  have hr := g.rx_idle_of_tx ht
  have hended : GoodNext c s { s with byteclkEn := false, txState := .idle } :=
    .still (g.endFrame.congr (by simp [invariantPart, hr])) rfl rfl rfl
  obtain ⟨t, hswitch, hnext⟩ := rxModeSwitch_completes hended.good (betweenFrames_iff.mpr ⟨hr, rfl⟩) (by simp [hm]) (g.planRx_of_tx ht)
  refine ⟨_, by unfold txComplete; rw [hswitch], ?_⟩
  exact (hended.trans hnext).trans (emit_next hnext.good .txComplete)

theorem txBodyByte_completes (g : Good c s) (hts : s.txState = .body) : Completes c s (txBodyByte c s) := by
  have ht : s.txState ≠ .idle := by simp [hts]
  have hplace := g.txPlace ht
  unfold txBodyByte
  simp only
  by_cases hlt : (frontBuf s).progress < (frontBuf s).size
  · obtain ⟨b, hb⟩ := Option.ne_none_iff_exists'.mp (hplace.written _ hlt)
    have hread := readPayload_ok.mpr ⟨hlt.trans_le (hplace.size.trans_le (frameLen_bounds c _).2), hb⟩
    rw [if_pos hlt, hread]
    refine ⟨_, rfl, g.sendOn ht (b := { frontBuf s with progress := (frontBuf s).progress + 1 }) (g.frontGood.withCounters _ hlt) (p := s.preIdx) (r := .body)
      ⟨nofun, hplace.size, hplace.written, nofun, nofun⟩ ?_ rfl rfl rfl⟩
    simp [invariantPart, hts]
  · have hle := g.working.buf_front.progress
    rw [if_neg hlt, if_pos (by omega)]
    exact txComplete_completes g ht

/-- Every byte event of a frame in transmission has its rule (R256 to R259). -/
theorem txByte_completes (g : Good c s) (ht : s.txState ≠ .idle) : Completes c s (txByte c s) := by
  unfold txByte
  split
  · next h => exact absurd h ht
  · next h => exact trainingByte_completes g h
  · next h => exact preambleByte_completes g h
  · next h => exact txBodyByte_completes g h

/-! ### The events (R249, R341) -/

theorem evSyncDetect_completes (g : Good c s) : Completes c s (evSyncDetect c s) := by
  unfold evSyncDetect
  cases ha : s.syncArmed with
  | false => exact ⟨s, rfl, .still g rfl rfl rfl⟩
  | true => exact ⟨_, rfl, syncDetect_next g ha⟩

theorem Completes.after (h : Completes c t r) (n : GoodNext c s t) : Completes c s r := by
  obtain ⟨u, hr, n'⟩ := h
  exact ⟨u, hr, n.trans n'⟩

theorem evByteClock_completes (g : Good c s) (b : Byte) : Completes c s (evByteClock c b s) := by
  unfold evByteClock
  have hrec : ∀ e, GoodNext c s (record e s) := fun e => .still (g.congr rfl) rfl rfl rfl
  cases hclk : s.byteclkEn with
  | false => exact ⟨s, rfl, .still g rfl rfl rfl⟩
  | true =>
    rw [takeEvent_true]
    unfold byteClockHandler
    split
    · next ht => exact (txByte_completes (hrec .byteClock).good ht).after (hrec .byteClock)
    · next ht =>
      have hr : s.rxState ≠ .idle := (g.spec.inv2.mp hclk).resolve_right ht
      exact (rxByte_completes (hrec (.rxIn b)).good hr b).after (hrec (.rxIn b))

/-! ### The drain (R265, R266) -/

theorem rxDrainBeginCommand_staysGood (g : Good c s) : StaysGood c s (rxDrainBeginCommand c s) := by
  unfold rxDrainBeginCommand
  obtain ⟨rssi, freq, h, d, hd⟩ := drainReadings_frame c s
  simp only [hd]
  split
  · exact g.quietNext (quiet_answer _ _ s)
  next hready =>
  have hready : (backBuf s).ready = true := not_not.mp hready
  split
  · exact g.quietNext (quiet_answer _ _ s)
  have hback := g.working.buf_back
  obtain ⟨l, hl⟩ := readPayloadFrom_answers (a := 0) (by simpa using hback.ready_size hready) (by simpa [Written] using hback.ready_written hready)
  have hl' : readPayloadFrom c (backBuf { s with history := h, drawCount := d }).payload 0 (backBuf { s with history := h, drawCount := d }).size = .ok l := hl
  simp only [hl']
  exact GoodNext.still ((g.replaceBack (b := { backBuf s with rssi := rssi, freq := freq }) { hback with } fun _ => hready).congr rfl) rfl rfl rfl

theorem clearReady_eq_zero {x : Byte} (h : x = 0x00#8 ∨ x = 0x01#8) : clearReady x = 0x00#8 := by
  obtain rfl | rfl := h <;> rfl

theorem rxDrainEndCommand_staysGood (g : Good c s) : StaysGood c s (rxDrainEndCommand s) := by
  unfold rxDrainEndCommand
  split
  · have hback := g.working.buf_back
    have hfree : FrameBuffer.ready { backBuf s with flags := clearReady (backBuf s).flags } = false := ready_clearReady _
    have hdrained : BufferGood c { backBuf s with flags := clearReady (backBuf s).flags } :=
      { hback with
        flags := .inl (clearReady_eq_zero hback.flags)
        ready_size := fun h => absurd h (by simp [hfree])
        ready_written := fun h => absurd h (by simp [hfree]) }
    exact GoodNext.still ((g.replaceBack hdrained (pending := false) nofun).congr rfl) rfl rfl rfl
  · exact g.quietNext (quiet_answer _ _ s)

/-! ### Carrier sense and TX_START (R270, R271) -/

theorem carrierSense_le (g : Good c s) (rssi : Rat) : (carrierSense c rssi s).2 ≤ c.quarantineMax := by
  have hq := g.spec.inv7
  unfold carrierSense
  split_ifs
  · exact le_refl _
  · exact (Nat.sub_le _ _).trans hq
  · exact hq

theorem transmitAllowed_next (g : Good c s) : GoodNext c s (transmitAllowed c s).2 := by
  rw [transmitAllowed_eq]
  exact .still ((g.setQuarantine (carrierSense_le g _)).congr rfl) rfl rfl rfl

theorem hostPull_next (g : Good c s) : GoodNext c s (hostPull c s).2 := .still (g.congr rfl) rfl rfl rfl

theorem csCheckCommand_staysGood (g : Good c s) : StaysGood c s (csCheckCommand c s) := by
  unfold csCheckCommand
  split
  · exact specFault_busOff
  · exact (transmitAllowed_next g).answer _ _

theorem txType_some {n : Nat} {ft : FrameType} (h : txType c n = some ft) : n = c.frameLen ft := by
  unfold txType at h
  split_ifs at h with h1 h2
  · cases h; exact h1
  · cases h; exact h2

/-- The front buffer TX_START loads: the frame whole, nothing sent yet. -/
theorem loadFrame_frontGood (g : Good c s) {l : List Byte} (hl : l.length ≤ c.maxPayload) : FrontGood c (loadFrame l s) where
  good := {
    flags := .inl rfl
    progress := Nat.zero_le _
    canonical := Memory.writeAll_wf g.working.buf_front.canonical 0 l
    inside := fun x hx => by
      obtain ⟨-, hx⟩ | hx := Memory.mem_writeAll hx
      · omega
      · exact g.working.buf_front.inside x hx
    ready_size := by simp [loadFrame, FrameBuffer.ready]
    ready_written := by simp [loadFrame, FrameBuffer.ready] }
  ready := by simp [loadFrame, FrameBuffer.ready]

theorem loadFrame_written (g : Good c s) (l : List Byte) : Written (loadFrame l s) l.length := by
  intro j hj
  simp only [loadFrame, Memory.read_writeAll g.working.buf_front.canonical]
  simp [hj]

theorem startFrame_staysGood (g : Good c s) (hm : s.mode = .receiving) (hb : betweenFrames s = true) {l : List Byte} (hl : l.length ≤ c.maxPayload)
    {ft : FrameType} (hft : txType c l.length = some ft) : StaysGood c s (startFrame c l ft s) := by
  unfold startFrame
  simp only
  split
  · exact specFault_noPlan
  next hp =>
  have hp : s.planTx ≠ none := hp
  obtain ⟨hstaged, hpa⟩ := g.working.staged_tx hp
  rw [txModeSwitch_eq (by exact hstaged) (by exact hpa)]
  have gswitched := g.changeMode hb (m := .transmitting) (ce := s.ce) (armed := false) nofun (fun _ => hp) nofun nofun
  have hplace : TxPlace c ft (loadFrame l s) 0 (if 0 < s.cfg.trainingBytes then .training else .preamble) := {
    busy := by split <;> simp
    size := txType_some hft
    written := loadFrame_written g l
    training := fun h => by
      split at h
      · next hn => exact ⟨hn, rfl⟩
      · cases h
    preamble := fun _ => ⟨Nat.zero_le _, rfl⟩ }
  have gsending := gswitched.send rfl (betweenFrames_iff.mp hb).1 (g.spec.inv11.1 hm) (loadFrame_frontGood g hl) hplace
  exact ⟨gsending.congr rfl, fun o => ⟨by simpa using o.ce.mpr (by simp [hm]), by simp⟩⟩

theorem txStartCommand_staysGood (g : Good c s) : StaysGood c s (txStartCommand c s) := by
  unfold txStartCommand
  split
  · exact specFault_busOff
  split
  · exact g.quietNext (quiet_answer _ _ s)
  next hidle =>
  obtain ⟨hm, hr, ht⟩ := not_not.mp hidle
  have hsensed := transmitAllowed_next g
  have hpart : (transmitAllowed c s).2.mode = s.mode ∧ betweenFrames (transmitAllowed c s).2 = betweenFrames s := by
    rw [transmitAllowed_eq]
    exact ⟨rfl, rfl⟩
  generalize transmitAllowed c s = v at hsensed hpart
  simp only
  split
  · exact hsensed.answer _ _
  have hpulled := hsensed.trans (hostPull_next hsensed.good)
  have hpart : (hostPull c v.2).2.mode = s.mode ∧ betweenFrames (hostPull c v.2).2 = betweenFrames s := hpart
  generalize hostPull c v.2 = w at hpulled hpart
  split
  · exact hpulled.answer _ _
  · split
    · exact specFault_range
    next hlen =>
    split
    · exact (hpulled.trans (emit_next hpulled.good .txDropped)).answer _ _
    · next hft =>
      have hb : betweenFrames s = true := betweenFrames_iff.mpr ⟨hr, ht⟩
      exact (startFrame_staysGood hpulled.good (hpart.1.trans hm) (hpart.2.trans hb) (not_lt.mp hlen) hft).after hpulled

/-! ### CONFIG_SET and the resets (R300, R306, R370, R371) -/

theorem configSetCommand_staysGood (g : Good c s) (id : Byte) (v : ConfigArg) : StaysGood c s (configSetCommand id v s) := by
  unfold configSetCommand
  split
  · exact g.quietNext (quiet_answer _ _ s)
  · exact GoodNext.still (g.congr rfl) rfl rfl rfl

theorem clearState_next (c : Config) (s u : State) : GoodNext c s (clearState c u) :=
  ⟨(good_reset c _ _ _ _ _).congr rfl, fun _ => ⟨by simp [clearState, State.resetOf], by simp [clearState, State.resetOf]⟩⟩

/-! ### Every instruction -/

/-- From a good state every instruction but BOOTLOADER_ENTER, which is refused, ends in a good state or in one of the spec's faults. -/
theorem exec_staysGood (g : Good Config.actual s) {i : Instr} (hi : i ≠ .bootloaderEnter) : ∃ r, exec i s = finish r ∧ StaysGood Config.actual s r := by
  cases i with
  | planClocks | readRssi | readAfcOffset | readTemperature | readSupplyVoltage | readChipVersion | regWrite | regRead | scrGenerate | scrApply
  | configGet | serialGet | fwRevGet => exact g.staysGood_of_isQuery rfl
  | powerOn xtal => exact ⟨_, rfl, powerOnCommand_staysGood g xtal⟩
  | powerOff => exact ⟨_, rfl, powerOffCommand_staysGood g⟩
  | configureRx rate h freq ifbw => exact ⟨_, rfl, configureRxCommand_staysGood g rate h freq ifbw⟩
  | configureTx rate h freq => exact ⟨_, rfl, configureTxCommand_staysGood g rate h freq⟩
  | setRxMode => exact ⟨_, rfl, (setRxMode_staysGood g).thenOk⟩
  | setTxMode => exact ⟨_, rfl, (setTxMode_staysGood g).thenOk⟩
  | setSyncWord word len tol => exact ⟨_, rfl, (setSyncWord_staysGood g _ _ _).thenOk⟩
  | enableAfc range ki kp => exact ⟨_, rfl, (enableAfc_staysGood g _ _ _).thenOk⟩
  | disableAfc => exact ⟨_, rfl, (disableAfc_staysGood g).thenOk⟩
  | reconfigure => exact ⟨_, rfl, reconfigureCommand_staysGood g⟩
  | csCheck => exact ⟨_, rfl, csCheckCommand_staysGood g⟩
  | txStart => exact ⟨_, rfl, txStartCommand_staysGood g⟩
  | rxDrainBegin => exact ⟨_, rfl, rxDrainBeginCommand_staysGood g⟩
  | rxDrainEnd => exact ⟨_, rfl, rxDrainEndCommand_staysGood g⟩
  | configSet id v => exact ⟨_, rfl, configSetCommand_staysGood g id v⟩
  | serialSet v => exact ⟨.ok _, rfl, .still (g.congr rfl) rfl rfl rfl⟩
  | softReset => exact ⟨.ok _, rfl, clearState_next _ s _⟩
  | evPowerUpReset => exact ⟨.ok _, rfl, clearState_next _ s _⟩
  | evSyncDetect => exact ⟨_, rfl, (evSyncDetect_completes g).staysGood⟩
  | evByteClock b => exact ⟨_, rfl, (evByteClock_completes g b).staysGood⟩
  | bootloaderEnter => exact absurd rfl hi

theorem exec_goodNext {i : Instr} (g : Good Config.actual s) (h : exec i s = .next t) : GoodNext Config.actual s t := by
  have hi : i ≠ .bootloaderEnter := by rintro rfl; cases h
  obtain ⟨r, hr, hgood⟩ := exec_staysGood g hi
  exact hgood.ok (finish_eq_next.mp (hr.symm.trans h))

theorem exec_specFault {i : Instr} (g : Good Config.actual s) (h : exec i s = .fault f) : SpecFault f := by
  have hi : i ≠ .bootloaderEnter := by rintro rfl; cases h
  obtain ⟨r, hr, hgood⟩ := exec_staysGood g hi
  exact hgood.error (finish_eq_fault.mp (hr.symm.trans h))

/-! ### Every step -/

/-- What a step finds to do, in a state that differs in its inputs alone. -/
theorem fetch_cases (s : State) : ∃ l, fetch s = .idle { s with inputs := l } ∨ fetch s = .invalid { s with inputs := l }
    ∨ ∃ i, fetch s = .run i { s with inputs := l } := by
  unfold fetch
  split
  · next h => exact ⟨[], .inl (by rw [← h])⟩
  · exact ⟨_, .inl rfl⟩
  · unfold fetchHost
    split
    · split
      · exact ⟨_, .inr (.inl rfl)⟩
      · exact ⟨_, .inr (.inr ⟨_, rfl⟩)⟩
    · exact ⟨_, .inr (.inl rfl)⟩
    · exact ⟨_, .inr (.inl rfl)⟩
  · unfold fetchEvent
    split
    · split
      · exact ⟨_, .inr (.inr ⟨_, rfl⟩)⟩
      · exact ⟨_, .inl rfl⟩
    · exact ⟨_, .inl rfl⟩

/-- What a step of an unstopped state is: it waits, answers INVALID, or runs an instruction (R75). -/
theorem step_cases (hf : s.faults = []) (hr : s.refused = false) : ∃ l, step s = .next { s with inputs := l }
    ∨ step s = .next (answerInvalid { s with inputs := l }) ∨ ∃ i, step s = exec i { s with inputs := l } := by
  obtain ⟨l, h | h | ⟨i, h⟩⟩ := fetch_cases s
  · exact ⟨l, .inl (by simp [step, hf, hr, h])⟩
  · exact ⟨l, .inr (.inl (by simp [step, hf, hr, h]))⟩
  · exact ⟨l, .inr (.inr ⟨i, by simp [step, hf, hr, h]⟩)⟩

theorem step_goodNext (g : Good Config.actual s) (h : step s = .next t) : GoodNext Config.actual s t := by
  have hf : s.faults = [] := by_contra fun hf => step_ne_next_of_faults hf t h
  have hr : s.refused = false := Bool.eq_false_iff.mpr fun hr => step_ne_next_of_refused hr t h
  have htaken : ∀ l, GoodNext Config.actual s { s with inputs := l } := fun _ => .still (g.congr rfl) rfl rfl rfl
  obtain ⟨l, hs | hs | ⟨i, hs⟩⟩ := step_cases hf hr
  · cases hs.symm.trans h; exact htaken l
  · cases hs.symm.trans h; exact (htaken l).answer _ _
  · exact (htaken l).trans (exec_goodNext (htaken l).good (hs.symm.trans h))

theorem step_specFault (g : Good Config.actual s) (hf : s.faults = []) (h : step s = .fault f) : SpecFault f := by
  cases hr : s.refused with
  | true => rw [step_of_refused hf hr] at h; cases h
  | false =>
    obtain ⟨l, hs | hs | ⟨i, hs⟩⟩ := step_cases hf hr
    · cases hs.symm.trans h
    · cases hs.symm.trans h
    · have htaken : Good Config.actual { s with inputs := l } := g.congr rfl
      exact exec_specFault htaken (hs.symm.trans h)

end Sys2Proof.Safety

namespace Sys2Proof.Proofs

open Sys2Proof.Machine Sys2Proof.Safety

/-- Settles O56: each step of a good state waits, answers INVALID or runs an instruction, and each instruction is a chain of moves between good states. -/
theorem everyStepKeepsTheInvariants : Obligations.EveryStepKeepsTheInvariants :=
  fun _ _ g h => (step_goodNext g h).good

/-- Settles O58, by the same case analysis: the mode and the outputs move together or not at all. -/
theorem everyStepKeepsTheOutputs : Obligations.EveryStepKeepsTheOutputs :=
  fun _ _ g o h => (step_goodNext g h).outputs o

/-- Settles O60: in a good state every byte of a frame has its rule, and what a rule reads was written. -/
theorem goodStatesStayWithinTheRules : Obligations.GoodStatesStayWithinTheRules := by
  intro s g
  refine ⟨fun b => ?byteClock, ?syncEdge, fun hf => ⟨fun h => ?ruled, fun h => ?written⟩⟩
  case byteClock =>
    obtain ⟨t, ht, -⟩ := evByteClock_completes g b
    exact ⟨t, finish_eq_next.mpr ht⟩
  case syncEdge =>
    obtain ⟨t, ht, -⟩ := evSyncDetect_completes g
    exact ⟨t, finish_eq_next.mpr ht⟩
  case ruled => exact (step_specFault g hf h).ruled rfl
  case written => exact (step_specFault g hf h).written rfl

end Sys2Proof.Proofs
end

section
/-! PROOFS. What the resets leave (R60, R370, R371), and what the chip's registers hold after a TX switch (R23, R177, R178). -/

namespace Sys2Proof.Proofs

open Sys2Proof.Machine Sys2Proof.Safety

/-! ### The resets -/

/-- The reset values, whatever the values R60 leaves unspecified and whatever the fields are that no reset clears. -/
theorem resetFields_cleared (c : Config) (r0 f0 r1 f1 : Rat) (ft : FrameType) (kept : State) : ResetFields c { State.resetOf c with
    buf := #v[FrameBuffer.cleared r0 f0, FrameBuffer.cleared r1 f1], ftype := ft, serial := kept.serial, faults := kept.faults, refused := kept.refused
    history := kept.history, inputs := kept.inputs, drawCount := kept.drawCount, reply := kept.reply } where
  mode := rfl
  xtal := rfl
  plans := ⟨rfl, rfl, rfl, rfl⟩
  images := fun a => ⟨imageAt_empty a, imageAt_empty a, imageAt_empty a⟩
  outputs := ⟨rfl, rfl, rfl⟩
  afc := ⟨rfl, rfl⟩
  sync := rfl
  cfg := rfl
  buffers
    | 0 => ⟨rfl, rfl, rfl, rfl⟩
    | 1 => ⟨rfl, rfl, rfl, rfl⟩
  cells
    | 0, _ => rfl
    | 1, _ => rfl
  front := rfl
  states := ⟨rfl, rfl, rfl, rfl⟩
  enables := ⟨rfl, rfl⟩
  counters := ⟨rfl, rfl⟩

theorem resetFields_reset : ResetFields Config.actual State.reset := resetFields_cleared Config.actual 0 0 0 0 .short State.reset

theorem resetFields_clearState (c : Config) (s : State) : ResetFields c (clearState c s) :=
  resetFields_cleared c _ _ _ _ _ { s with drawCount := s.drawCount + 5 }

/-- A soft reset records the outputs it releases and keeps what was recorded before (R371). -/
theorem softReset_history (c : Config) (s : State) :
    (softReset c s).history = s.history ++ ((if s.trsw then [.setTr false] else []) ++ if s.ce then [.setCe false] else []) := by
  obtain ⟨-, -, -, hkept⟩ := clearState_kept c (releaseCe (releaseTr s))
  rw [softReset, hkept, releaseCe_eq, releaseTr_eq, List.append_assoc]

/-- Settles O8: the three resets set the same fields, and the later two keep the rest. -/
theorem resetsGiveTheResetValues : Obligations.ResetsGiveTheResetValues := by
  refine ⟨resetFields_reset, ⟨rfl, rfl, rfl, rfl⟩, fun s t h => ?powerUp, fun s t h => ?soft⟩
  case powerUp =>
    cases h
    exact ⟨resetFields_clearState _ s, rfl, rfl⟩
  case soft =>
    cases h
    exact ⟨resetFields_clearState _ _, softReset_serial _ _, _, softReset_history _ _⟩

/-- Settles O57: the reset state is one of the cleared states. -/
theorem resetMeetsTheInvariants : Obligations.ResetMeetsTheInvariants :=
  ⟨good_reset Config.actual 0 0 0 0 .short, ⟨by simp [State.reset, State.resetOf], by simp [State.reset, State.resetOf]⟩, reset_memory_wf⟩

/-! ### The chip's registers after a TX switch -/

/-- The registers a TX switch writes before the T/R switch moves (R178): the PA while it is not warm, and the sequence without the PLL and a skipped shared clock. -/
def txSwitchRegisters (c : Config) (s : State) : List RegAddr :=
  (if s.paWarm then [] else [c.regPa])
    ++ c.txSeq.filter fun a => a ≠ c.regPll ∧ ¬ (a = c.regClk ∧ s.mode = .receiving ∧ imageAt s.stageRx a = imageAt s.stageTx a)

theorem txSwitchEvents_eq (c : Config) (s : State) :
    txSwitchEvents c s = (txSwitchRegisters c s).flatMap (writeEvent s.stageTx) ++ [.setTr true] ++ [c.regPll].flatMap (writeEvent s.stageTx) := by
  unfold txSwitchEvents txSwitchRegisters
  cases s.paWarm <;> simp

theorem powerOff_notMem_writes (m : Image) (l : List RegAddr) : Event.setCe false ∉ l.flatMap (writeEvent m) := by
  simp only [List.mem_flatMap, not_exists, not_and]
  exact fun a _ => powerOff_notMem_writeEvent m a

/-- What the events of a TX switch write to each register: its staged value, where it is the PLL or one of those before it. -/
theorem chipRegister_txSwitchEvents {c : Config} {s : State} (hstaged : Staged s.stageTx c.txSeq) (hpa : imageAt s.stageTx c.regPa ≠ none)
    (haddr : ∀ a v, imageAt s.stageTx a = some v → addrOf v = a) (a : RegAddr) :
    chipRegister a (txSwitchEvents c s) = if a = c.regPll ∨ a ∈ txSwitchRegisters c s then imageAt s.stageTx a else none := by
  have hpll : Staged s.stageTx [c.regPll] := by
    rintro _ h
    rw [List.mem_singleton.mp h]
    exact hstaged _ (List.mem_of_getLast? c.valid.pll_last_tx)
  have hbefore : Staged s.stageTx (txSwitchRegisters c s) := by
    intro b hb
    obtain hb | hb := List.mem_append.mp hb
    · split at hb
      · cases hb
      · rw [List.mem_singleton.mp hb]; exact hpa
    · exact hstaged b (List.mem_of_mem_filter hb)
  have htr : chipRegister a [.setTr true] = none := rfl
  rw [txSwitchEvents_eq, chipRegister_append (powerOff_notMem_writes _ _), chipRegister_append (by simp), chipRegister_writes haddr hpll,
    chipRegister_writes haddr hbefore, htr, Option.none_or]
  simp only [List.mem_singleton]
  by_cases ha : a = c.regPll
  · obtain ⟨v, hv⟩ := Option.ne_none_iff_exists'.mp (hpll a (List.mem_singleton.mpr ha))
    rw [if_pos ha, hv, Option.some_or, if_pos (.inl ha)]
  · rw [if_neg ha, Option.none_or]
    simp only [ha, false_or]

/-- Which registers those are: the whole sequence and a cold PA, but for a skipped shared clock (R177, R178). -/
theorem mem_txSwitchRegisters {c : Config} {s : State} {a : RegAddr} : (a = c.regPll ∨ a ∈ txSwitchRegisters c s) ↔
    ¬ (a = c.regClk ∧ s.mode = .receiving ∧ imageAt s.stageRx a = imageAt s.stageTx a) ∧ (a ∈ c.txSeq ∨ (a = c.regPa ∧ s.paWarm = false)) := by
  have hpll : c.regPll ∈ c.txSeq := List.mem_of_getLast? c.valid.pll_last_tx
  have hpa : a ∈ (if s.paWarm then [] else [c.regPa]) ↔ a = c.regPa ∧ s.paWarm = false := by
    cases s.paWarm <;> simp
  simp only [txSwitchRegisters, List.mem_append, List.mem_filter, decide_eq_true_eq, hpa]
  by_cases h1 : a = c.regPll
  · subst h1
    simp [c.valid.pll_ne_clk, hpll]
  · by_cases h2 : a = c.regPa
    · subst h2
      simp [h1, c.valid.clk_ne_pa.symm, c.valid.pa_not_tx]
    · simp only [h1, h2, false_and, false_or, or_false, ne_eq, not_false_eq_true, true_and]
      tauto

/-- Settles O30: a good state has staged all that the switch writes, and the last word written to a register is the one it holds. -/
theorem txSwitchProgramsTheChip : Obligations.TxSwitchProgramsTheChip := by
  intro s g hon hplan hframe
  obtain ⟨hstaged, hpa⟩ := g.working.staged_tx hplan
  have hready : setTxMode Config.actual s = txModeSwitch Config.actual s := by
    simp only [setTxMode, busOk_iff.mpr hon, hplan, not_midFrame_iff.mp hframe, not_true, if_false]
  refine ⟨_, finish_eq_next.mpr (thenOk_eq_ok.mpr ⟨_, hready.trans (txModeSwitch_eq hstaged hpa), rfl⟩), fun a => ?_⟩
  have haddr : ∀ a v, imageAt s.stageTx a = some v → addrOf v = a := fun a v h => g.spec.inv9 a v (.inr (.inl h))
  rw [answer_history, chipRegister_append (powerOff_notMem_switch _ s).1, chipRegister_txSwitchEvents hstaged hpa haddr]
  simp only [mem_txSwitchRegisters]
  by_cases hskip : a = Config.actual.regClk ∧ s.mode = .receiving ∧ imageAt s.stageRx a = imageAt s.stageTx a
  · rw [if_neg (fun h => h.1 hskip), if_pos hskip, Option.none_or]
  rw [if_neg hskip]
  by_cases hwritten : a ∈ Config.actual.txSeq ∨ (a = Config.actual.regPa ∧ s.paWarm = false)
  · obtain ⟨v, hv⟩ : ∃ v, imageAt s.stageTx a = some v := by
      refine Option.ne_none_iff_exists'.mp ?_
      obtain h | ⟨rfl, -⟩ := hwritten
      · exact hstaged a h
      · exact hpa
    rw [if_pos ⟨hskip, hwritten⟩, if_pos hwritten, hv, Option.some_or]
  · rw [if_neg (fun h => hwritten h.2), if_neg hwritten, Option.none_or]

end Sys2Proof.Proofs
end

section
/-! PROOFS. What a step takes from the queue (R75, R109, R111), and the commands that are one bus exchange (R183 to R187, R189, R190). -/

namespace Sys2Proof.Proofs

open Sys2Proof.Machine Sys2Proof.Safety

/-! ### What a step takes from the queue -/

section Step

variable {s t : State} {i : Instr}

theorem step_of_fetch_idle (hf : s.faults = []) (hr : s.refused = false) (h : fetch s = .idle t) : step s = .next t := by
  simp [step, hf, hr, h]

theorem step_of_fetch_invalid (hf : s.faults = []) (hr : s.refused = false) (h : fetch s = .invalid t) : step s = .next (answerInvalid t) := by
  simp [step, hf, hr, h]

theorem step_of_fetch_run (hf : s.faults = []) (hr : s.refused = false) (h : fetch s = .run i t) : step s = exec i t := by
  simp [step, hf, hr, h]

variable {b : Byte} {bytes rest : List Byte} {later : List Packet}

theorem fetch_of_no_inputs (h : s.inputs = []) : fetch s = .idle s := by
  simp only [fetch, h]

theorem fetch_of_host (h : s.inputs = ⟨.host, b :: bytes⟩ :: later) : fetch s = fetchHost (b :: bytes) later s := by
  simp only [fetch, h]

theorem fetch_of_event (h : s.inputs = ⟨.event, b :: bytes⟩ :: later) : fetch s = fetchEvent (b :: bytes) later s := by
  simp only [fetch, h]

theorem fetchHost_of_event (hd : decode bytes = .ok (i, rest)) (hi : i.isEvent = true) :
    fetchHost bytes later s = .invalid (takeTo .host rest later s) := by
  simp only [fetchHost, hd, hi, if_true]

theorem fetchHost_of_command (hd : decode bytes = .ok (i, rest)) (hi : ¬ i.isEvent = true) :
    fetchHost bytes later s = .run i (takeTo .host rest later s) := by
  simp only [fetchHost, hd, if_neg hi]

theorem fetchHost_of_unassigned {op : Byte} (hd : decode bytes = .error (.unassigned op)) :
    fetchHost bytes later s = .invalid (takeTo .host (bytes.drop 1) later s) := by
  simp only [fetchHost, hd]

theorem fetchHost_of_truncated (hd : decode bytes = .error .truncated) : fetchHost bytes later s = .invalid (takeTo .host [] later s) := by
  simp only [fetchHost, hd]

theorem fetchEvent_of_event (hd : decode bytes = .ok (i, rest)) (hi : i.isEvent = true) :
    fetchEvent bytes later s = .run i (takeTo .event rest later s) := by
  simp only [fetchEvent, hd, hi, if_true]

end Step

/-- Settles O5: what `fetch` takes decides the step, and `decode` decides what `fetch` takes. -/
theorem stepRunsTheDecodedInput : Obligations.StepRunsTheDecodedInput := by
  intro s b bytes later hf hr
  refine ⟨fun hin => ?host, fun hin i rest hd hi => ?event, fun hin => ?waits⟩
  case host =>
    have hfetch := fetch_of_host hin
    split
    · next i rest hd =>
      split
      · next hi => exact step_of_fetch_invalid hf hr (hfetch.trans (fetchHost_of_event hd hi))
      · next hi => exact step_of_fetch_run hf hr (hfetch.trans (fetchHost_of_command hd hi))
    · next hd => exact step_of_fetch_invalid hf hr (hfetch.trans (fetchHost_of_unassigned hd))
    · next hd => exact step_of_fetch_invalid hf hr (hfetch.trans (fetchHost_of_truncated hd))
  case event => exact step_of_fetch_run hf hr ((fetch_of_event hin).trans (fetchEvent_of_event hd hi))
  case waits => exact step_of_fetch_idle hf hr (fetch_of_no_inputs hin)

/-! ### The commands that are one bus exchange -/

theorem not_busOk_iff {s : State} : ¬ busOk s = true ↔ s.mode = .off := by
  rw [busOk_iff, not_not]

theorem readCommand_of_on {s : State} (hon : s.mode ≠ .off) (c : Config) (sel : Selector) (conv : Word → Result) :
    readCommand c sel conv s = .ok (afterRead sel (c.draws.readback s.drawCount sel) (conv (c.draws.readback s.drawCount sel)) s) := by
  rw [readCommand, if_neg (not_not.mpr (busOk_iff.mpr hon)), busRead_eq]
  rfl

theorem readCommand_of_off {s : State} (hoff : s.mode = .off) (c : Config) (sel : Selector) (conv : Word → Result) :
    readCommand c sel conv s = .error .busOff := by
  rw [readCommand, if_pos (not_busOk_iff.mpr hoff)]

theorem regWriteCommand_of_on {s : State} (hon : s.mode ≠ .off) (v : Word) : regWriteCommand v s = .ok (answer .ok none (busWrite v s)) := by
  rw [regWriteCommand, if_neg (not_not.mpr (busOk_iff.mpr hon))]

theorem regWriteCommand_of_off {s : State} (hoff : s.mode = .off) (v : Word) : regWriteCommand v s = .error .busOff := by
  rw [regWriteCommand, if_pos (not_busOk_iff.mpr hoff)]

/-- Settles O32: six of the commands are `readCommand` with their selector and conversion, the seventh is one write. -/
theorem readbackAndPassthroughCommands : Obligations.ReadbackAndPassthroughCommands := by
  intro s sel v
  refine ⟨fun hon word hword => ?on, fun hoff i hi => ?off⟩
  case on =>
    obtain rfl : word = fun q => Config.actual.draws.readback s.drawCount q := funext hword
    have hread := fun q conv => finish_eq_next.mpr (readCommand_of_on hon Config.actual q conv)
    exact ⟨hread _ _, hread _ _, hread _ _, hread _ _, hread _ _, hread _ _, finish_eq_next.mpr (regWriteCommand_of_on hon v)⟩
  case off =>
    have hread := fun q conv => finish_eq_fault.mpr (readCommand_of_off hoff Config.actual q conv)
    simp only [List.mem_cons, List.not_mem_nil, or_false] at hi
    obtain rfl | rfl | rfl | rfl | rfl | rfl | rfl := hi
    iterate 6 exact hread _ _
    exact finish_eq_fault.mpr (regWriteCommand_of_off hoff v)

end Sys2Proof.Proofs
end

section
/-! PROOFS. What a mode switch that answers has done, whatever was staged (R177 to R179). -/

namespace Sys2Proof.Proofs

open Sys2Proof.Machine

variable {c : Config} {s t : State} {prev : Option Dir} {l : List RegAddr}

theorem eq_of_writeStaged_ok {m : Image} {a : RegAddr} (h : writeStaged m a s = .ok t) : t = { s with history := s.history ++ writeEvent m a } := by
  obtain ⟨v, hv, -⟩ := writeStaged_ok.mp h
  exact Except.ok.inj (h.symm.trans (writeStaged_answers (by simp [hv])))

/-- The PLL register is never skipped: it is not the shared clock. -/
theorem ne_regPll_of_skipsClock {new : Dir} {a : RegAddr} (h : skipsClock c s prev new a = true) : a ≠ c.regPll := by
  rintro rfl
  cases prev with
  | none => cases h
  | some d => simp [skipsClock, c.valid.pll_ne_clk] at h

theorem eq_of_rxSwitchWrites_ok (h : rxSwitchWrites c prev l s = .ok t) : t = { s with
    trsw := if c.regPll ∈ l then false else s.trsw
    history := s.history ++ l.flatMap fun a =>
      (if skipsClock c s prev .rx a then [] else writeEvent s.stageRx a) ++ (if a = c.regPll then [.setTr false] else []) } := by
  induction l generalizing s with
  | nil => cases h; simp
  | cons a l ih =>
    rw [rxSwitchWrites] at h
    split at h
    · next hskip =>
      have ha := ne_regPll_of_skipsClock hskip
      rw [ih h]
      simp [hskip, ha, ha.symm]
    · next hskip =>
      split at h
      · cases h
      next s1 hw =>
      rw [eq_of_writeStaged_ok hw] at h
      by_cases ha : a = c.regPll
      · subst ha
        rw [if_pos rfl] at h
        rw [ih h]
        simp [driveTr, record, hskip]
        rfl
      · rw [if_neg ha] at h
        rw [ih h]
        simp [hskip, ha, Ne.symm ha]
        rfl

theorem eq_of_rxModeSwitch_ok (h : rxModeSwitch c s = .ok t) :
    t = { s with mode := .receiving, trsw := false, syncArmed := true, history := s.history ++ rxSwitchEvents c s } := by
  unfold rxModeSwitch at h
  split at h
  · cases h
  next s1 hw =>
  cases h
  rw [eq_of_rxSwitchWrites_ok hw]
  simp [c.valid.pll_mem_rx, rxSwitchEvents, skipsClock_rx]

theorem eq_of_txSwitchWrites_ok (h : txSwitchWrites c prev l s = .ok t) : t = { s with
    history := s.history ++ (l.filter fun a => a ≠ c.regPll ∧ ¬ skipsClock c s prev .tx a).flatMap (writeEvent s.stageTx) } := by
  induction l generalizing s with
  | nil => cases h; simp
  | cons a l ih =>
    rw [txSwitchWrites] at h
    split at h
    · next hskip => rw [ih h, List.filter_cons_of_neg (by simp only [decide_eq_true_eq]; tauto)]
    · next hskip =>
      split at h
      · cases h
      next s1 hw =>
      rw [eq_of_writeStaged_ok hw] at h
      rw [ih h, List.filter_cons_of_pos (by simp only [decide_eq_true_eq]; tauto), List.flatMap_cons, ← List.append_assoc]
      rfl

theorem eq_of_warmPa_ok (h : warmPa c s = .ok t) :
    t = { s with paWarm := true, history := s.history ++ if s.paWarm then [] else writeEvent s.stageTx c.regPa } := by
  unfold warmPa at h
  split at h
  · next hwarm => cases h; simp [← hwarm]
  · next hcold =>
    split at h
    · cases h
    next hw =>
    cases h
    rw [eq_of_writeStaged_ok hw, if_neg hcold]

theorem eq_of_txModeSwitch_ok (h : txModeSwitch c s = .ok t) : t = { s with
    mode := .transmitting, syncArmed := false, paWarm := true, trsw := true, history := s.history ++ txSwitchEvents c s } := by
  unfold txModeSwitch at h
  simp only at h
  split at h
  · cases h
  next hpa =>
  split at h
  · cases h
  next hseq =>
  split at h
  · cases h
  next hpll =>
  cases h
  rw [eq_of_writeStaged_ok hpll, eq_of_txSwitchWrites_ok hseq, eq_of_warmPa_ok hpa]
  simp [driveTr, record, txSwitchEvents, skipsClock_tx]

end Sys2Proof.Proofs
end

section
/-! PROOFS. What the interrupt handlers leave and record: the back buffer is not theirs, and the bus is used by the completion of a transmission alone (R249 to R260, R381). -/

namespace Sys2Proof.Proofs

open Sys2Proof.Machine Sys2Proof.Safety

variable {c : Config} {s t u : State}

/-! ### The back buffer -/

/-- The roles of the buffers and the back buffer are what they were. -/
structure BackKept (s t : State) : Prop where
  front : t.front = s.front
  back : backBuf t = backBuf s

theorem BackKept.trans (k : BackKept s t) (k' : BackKept t u) : BackKept s u :=
  ⟨k'.front.trans k.front, k'.back.trans k.back⟩

theorem backKept_setFrontBuf (b : FrameBuffer) (s : State) : BackKept s (setFrontBuf b s) := ⟨rfl, backBuf_setFrontBuf b s⟩

/-- A swap changes roles, so the buffer that was in the back is spoken of by its index: it is not written, and where it is ready no swap happens. -/
structure BackUnwritten (s t : State) : Prop where
  cell : t.buf[backIndex s] = s.buf[backIndex s]
  front : (backBuf s).ready = true → t.front = s.front

theorem BackKept.unwritten (k : BackKept s t) : BackUnwritten s t where
  cell := by
    have hback := k.back
    simp only [backBuf, backIndex, k.front] at hback
    exact hback
  front := fun _ => k.front

theorem BackUnwritten.after (h : BackUnwritten t u) (k : BackKept s t) : BackUnwritten s u where
  cell := by
    have hi : backIndex t = backIndex s := by simp only [backIndex, k.front]
    have hcell := h.cell
    simp only [hi] at hcell
    exact hcell.trans k.unwritten.cell
  front := fun hr => (h.front (k.back ▸ hr)).trans k.front

/-- A ready back buffer that is not written stays the back buffer. -/
theorem BackUnwritten.kept (h : BackUnwritten s t) (hr : (backBuf s).ready = true) : BackKept s t where
  front := h.front hr
  back := by
    have hi : backIndex t = backIndex s := by simp only [backIndex, h.front hr]
    simp only [backBuf, hi]
    exact h.cell

/-! ### What a handler records -/

/-- A bus exchange (R72, R73). -/
def usesBus : Event → Bool
  | .busWrite _ | .busRead _ _ => true
  | _ => false

/-- A handler's step off the bus: the back buffer is not written, and no event recorded is a bus exchange. -/
structure OffBusStep (s t : State) : Prop where
  back : BackUnwritten s t
  events : ∃ l, t.history = s.history ++ l ∧ ∀ e ∈ l, usesBus e = false

theorem offBusStep_of_silent (k : BackUnwritten s t) (h : t.history = s.history) : OffBusStep s t :=
  ⟨k, [], by simp [h], by simp⟩

theorem offBusStep_of_one {e : Event} (k : BackUnwritten s t) (h : t.history = s.history ++ [e]) (he : usesBus e = false) : OffBusStep s t :=
  ⟨k, [e], h, by simpa using he⟩

theorem OffBusStep.after (h : OffBusStep t u) (h' : OffBusStep s t) (k : BackKept s t) : OffBusStep s u where
  back := h.back.after k
  events := by
    obtain ⟨l, hl, hbus⟩ := h'.events
    obtain ⟨l', hl', hbus'⟩ := h.events
    exact ⟨l ++ l', by rw [hl', hl, List.append_assoc], fun e he => (List.mem_append.mp he).elim (hbus e) (hbus' e)⟩

theorem OffBusStep.afterRecord {e : Event} (h : OffBusStep (record e s) t) (he : usesBus e = false) : OffBusStep s t :=
  h.after (offBusStep_of_one (BackKept.unwritten ⟨rfl, rfl⟩) rfl he) ⟨rfl, rfl⟩

theorem OffBusStep.afterFront {b : FrameBuffer} (h : OffBusStep (setFrontBuf b s) t) : OffBusStep s t :=
  h.after (offBusStep_of_silent (backKept_setFrontBuf b s).unwritten rfl) (backKept_setFrontBuf b s)

/-! ### Reception (R250 to R255) -/

theorem prefixByte_offBus (c : Config) (b : Byte) (s : State) : OffBusStep s (prefixByte c b s) := by
  refine OffBusStep.afterFront (b := { frontBuf s with progress := (frontBuf s).progress + 1 }) ?_
  unfold prefixByte prefixCheck
  simp only
  split
  · split
    · exact offBusStep_of_one (BackKept.unwritten ⟨rfl, backBuf_setFrontBuf _ _⟩) rfl rfl
    · exact offBusStep_of_silent (BackKept.unwritten ⟨rfl, rfl⟩) rfl
  · exact offBusStep_of_silent (BackKept.unwritten ⟨rfl, rfl⟩) rfl

theorem markerByte_offBus (c : Config) (b : Byte) (s : State) : OffBusStep s (markerByte c b s) :=
  offBusStep_of_silent (BackKept.unwritten ⟨rfl, backBuf_setFrontBuf _ s⟩) rfl

/-- The one swap: it needs a back buffer that is not ready, and writes the front one (R255). -/
theorem rxComplete_offBus (s : State) : OffBusStep s (rxComplete s) := by
  unfold rxComplete
  split
  · exact offBusStep_of_one (BackKept.unwritten ⟨rfl, backBuf_setFrontBuf _ _⟩) rfl rfl
  · next hready => exact offBusStep_of_one ⟨(backKept_setFrontBuf _ s).unwritten.cell, fun hr => absurd hr hready⟩ rfl rfl

theorem bodyByte_offBus {b : Byte} (h : bodyByte c b s = .ok t) : OffBusStep s t := by
  unfold bodyByte at h
  simp only at h
  split at h
  · cases h
  · cases h
    split
    · exact (rxComplete_offBus _).afterFront
    · exact offBusStep_of_silent (backKept_setFrontBuf _ s).unwritten rfl

theorem rxByte_offBus {b : Byte} (h : rxByte c b s = .ok t) : OffBusStep s t := by
  unfold rxByte at h
  split at h
  · cases h
  · exact bodyByte_offBus h
  all_goals
    split at h
    · cases h; exact prefixByte_offBus c b s
    · split at h
      · cases h; exact markerByte_offBus c b s
      · cases h

/-! ### Transmission (R256 to R259) -/

theorem trainingByte_offBus (h : trainingByte c s = .ok t) : OffBusStep s t := by
  unfold trainingByte at h
  simp only at h
  split at h
  · cases h
  · cases h
    refine OffBusStep.afterRecord (e := .txOut c.trainingSymbol) ?_ rfl
    split <;> exact offBusStep_of_silent (BackKept.unwritten ⟨rfl, backBuf_setFrontBuf _ (txOut c.trainingSymbol s)⟩) rfl

theorem preambleByte_offBus (h : preambleByte c s = .ok t) : OffBusStep s t := by
  unfold preambleByte at h
  simp only at h
  split at h
  · cases h
  · cases h
    split <;> exact offBusStep_of_one (BackKept.unwritten ⟨rfl, rfl⟩) rfl rfl

/-- The state a completed transmission ends in (R259). -/
def afterTransmission (c : Config) (s : State) : State :=
  { s with
    mode := .receiving, byteclkEn := false, txState := .idle, trsw := false, syncArmed := true
    history := s.history ++ rxSwitchEvents c s ++ [.emit .txComplete] }

theorem eq_of_txComplete_ok (h : txComplete c s = .ok t) : t = afterTransmission c s := by
  unfold txComplete at h
  split at h
  · cases h
  next hm =>
  cases h
  rw [eq_of_rxModeSwitch_ok hm]
  rfl

/-- All bytes of the frame were presented; the next byte event completes the transmission (R259). -/
def AllSent (s : State) : Prop := s.txState = .body ∧ (frontBuf s).progress = (frontBuf s).size

theorem txBodyByte_cases (hb : s.txState = .body) (h : txBodyByte c s = .ok t) : OffBusStep s t ∨ (AllSent s ∧ t = afterTransmission c s) := by
  unfold txBodyByte at h
  simp only at h
  split at h
  · split at h
    · cases h
    · cases h
      exact .inl (OffBusStep.afterRecord (offBusStep_of_silent (backKept_setFrontBuf _ (txOut _ s)).unwritten rfl) rfl)
  · split at h
    · next hsent => exact .inr ⟨⟨hb, hsent⟩, eq_of_txComplete_ok h⟩
    · cases h

theorem txByte_cases (h : txByte c s = .ok t) : OffBusStep s t ∨ (AllSent s ∧ t = afterTransmission c s) := by
  unfold txByte at h
  split at h
  · cases h
  · exact .inl (trainingByte_offBus h)
  · exact .inl (preambleByte_offBus h)
  · next hb => exact txBodyByte_cases hb h

/-! ### The two events (R249, R250) -/

/-- What a byte clock does: it stays off the bus, or it completes a transmission. -/
theorem evByteClock_cases {b : Byte} (h : evByteClock c b s = .ok t) :
    OffBusStep s t ∨ (AllSent s ∧ t = afterTransmission c (record .byteClock s)) := by
  unfold evByteClock at h
  cases hclk : s.byteclkEn with
  | false =>
    rw [hclk] at h
    cases h
    exact .inl (offBusStep_of_silent (BackKept.unwritten ⟨rfl, rfl⟩) rfl)
  | true =>
    rw [hclk, takeEvent_true] at h
    unfold byteClockHandler at h
    split at h
    · obtain ho | hc := txByte_cases h
      · exact .inl (ho.afterRecord rfl)
      · exact .inr hc
    · exact .inl ((rxByte_offBus h).afterRecord rfl)

theorem evByteClock_unwritten {b : Byte} (h : evByteClock c b s = .ok t) : BackUnwritten s t := by
  obtain ho | ⟨-, rfl⟩ := evByteClock_cases h
  · exact ho.back
  · exact BackKept.unwritten ⟨rfl, rfl⟩

/-- What a sync edge does: nothing where it is lost, else it records itself and writes the front buffer. -/
theorem evSyncDetect_cases (h : evSyncDetect c s = .ok t) :
    BackKept s t ∧ (t.history = s.history ∨ t.history = s.history ++ [.syncEdge]) := by
  unfold evSyncDetect at h
  cases harm : s.syncArmed with
  | false =>
    rw [harm] at h
    cases h
    exact ⟨⟨rfl, rfl⟩, .inl rfl⟩
  | true =>
    rw [harm, takeEvent_true] at h
    cases h
    exact ⟨⟨rfl, backBuf_setFrontBuf _ (record .syncEdge s)⟩, .inr rfl⟩

/-! ### The bus between frames alone (R381) -/

theorem newEvents_of_append {l : List Event} (h : t.history = s.history ++ l) : newEvents s t = l := by
  simp [newEvents, h]

theorem busRead_notMem_writeEvent (sel : Selector) (v : Word) (m : Image) (a : RegAddr) : Event.busRead sel v ∉ writeEvent m a := by
  unfold writeEvent
  split <;> simp

/-- A switch to RX reads no register. -/
theorem busRead_notMem_rxSwitchEvents (sel : Selector) (v : Word) (c : Config) (s : State) : Event.busRead sel v ∉ rxSwitchEvents c s := by
  simp only [rxSwitchEvents, List.mem_flatMap, List.mem_append, not_exists, not_and, not_or]
  refine fun a _ => ⟨?_, by split <;> simp⟩
  split
  · simp
  · exact busRead_notMem_writeEvent sel v _ a

theorem newEvents_afterTransmission (c : Config) (s : State) :
    newEvents s (afterTransmission c (record .byteClock s)) = [.byteClock] ++ rxSwitchEvents c s ++ [.emit .txComplete] := by
  have hswitch : rxSwitchEvents c (record .byteClock s) = rxSwitchEvents c s := rfl
  exact newEvents_of_append (by simp [afterTransmission, hswitch])

/-- Settles O55: off the completion of a transmission a handler records no bus exchange, and the completion is a switch to RX with no frame left. -/
theorem handlersUseTheBusOnlyBetweenFrames : Obligations.HandlersUseTheBusOnlyBetweenFrames := by
  intro s t b
  refine ⟨fun h => ⟨fun sel v => ?noRead, fun g v hv => ?writes⟩, fun h => ?syncEdge⟩
  case noRead =>
    obtain ⟨-, l, hl, hbus⟩ | ⟨-, rfl⟩ := evByteClock_cases (finish_eq_next.mp h)
    · rw [newEvents_of_append hl]
      exact fun hmem => Bool.noConfusion (hbus _ hmem)
    · rw [newEvents_afterTransmission]
      simpa using busRead_notMem_rxSwitchEvents sel v _ s
  case writes =>
    obtain ⟨-, l, hl, hbus⟩ | ⟨⟨hbody, hsent⟩, rfl⟩ := evByteClock_cases (finish_eq_next.mp h)
    · rw [newEvents_of_append hl] at hv
      exact Bool.noConfusion (hbus _ hv)
    · have hidle : s.rxState = .idle := g.rx_idle_of_tx (by simp [hbody])
      exact ⟨hbody, hsent, not_midFrame_iff.mpr (betweenFrames_iff.mpr ⟨hidle, rfl⟩), rfl⟩
  case syncEdge =>
    obtain ⟨-, hl | hl⟩ := evSyncDetect_cases (finish_eq_next.mp h)
    · simp [newEvents, hl]
    · rw [newEvents_of_append hl]
      exact fun e he => List.mem_singleton.mp he

end Sys2Proof.Proofs
end

section
/-! PROOFS. What the commands leave of the back buffer: the drain alone writes it, and no command swaps (R82, R84, R260). -/

namespace Sys2Proof.Proofs

open Sys2Proof.Machine

variable {c : Config} {s t u : State}

theorem backKept_of_quiet (h : Quiet s t) : BackKept s t := by
  obtain ⟨_, _, _, rfl⟩ := h
  exact ⟨rfl, rfl⟩

/-! ### The radio controller's commands -/

theorem powerOnCommand_backKept {xtal : Word} (h : powerOnCommand c xtal s = .ok t) : BackKept s t := by
  unfold powerOnCommand at h
  simp only [releaseTr_eq, writeSys_eq] at h
  split at h
  · cases h
  split at h
  · cases h
  · cases h; exact ⟨rfl, rfl⟩

theorem abandonFrame_backKept (s : State) : BackKept s (abandonFrame s) := by
  unfold abandonFrame
  split
  · exact ⟨rfl, rfl⟩
  · exact backKept_setFrontBuf _ s

theorem powerOffCommand_backKept (h : powerOffCommand s = .ok t) : BackKept s t := by
  unfold powerOffCommand at h
  simp only [releaseTr_eq] at h
  split at h
  · cases h; exact ⟨rfl, rfl⟩
  · cases h
    exact (abandonFrame_backKept s).trans ⟨rfl, rfl⟩

theorem failPlan_backKept (d : Dir) (s : State) : BackKept s (failPlan d s) := by
  cases d <;> exact ⟨rfl, rfl⟩

theorem configureRx_backKept {rate h : Rat} {freq ifbw : Nat} {ok : Bool} (he : configureRx c rate h freq ifbw s = .ok (ok, t)) : BackKept s t := by
  unfold configureRx at he
  split at he
  · cases he
  · cases he; exact failPlan_backKept .rx s
  · cases he; exact ⟨rfl, rfl⟩

theorem configureTx_backKept {rate h : Rat} {freq : Nat} {ok : Bool} (he : configureTx c rate h freq s = .ok (ok, t)) : BackKept s t := by
  unfold configureTx at he
  split at he
  · cases he
  · cases he; exact failPlan_backKept .tx s
  · cases he; exact ⟨rfl, rfl⟩

theorem configureRxCommand_backKept {rate h : RatArg} {freq : Word} {ifbw : Byte} (he : configureRxCommand c rate h freq ifbw s = .ok t) :
    BackKept s t := by
  unfold configureRxCommand at he
  split at he
  · cases he; exact ⟨rfl, rfl⟩
  · split at he
    · cases he
    · next hc => cases he; exact (configureRx_backKept hc).trans ⟨rfl, rfl⟩

theorem configureTxCommand_backKept {rate h : RatArg} {freq : Word} (he : configureTxCommand c rate h freq s = .ok t) : BackKept s t := by
  unfold configureTxCommand at he
  split at he
  · cases he; exact ⟨rfl, rfl⟩
  · split at he
    · cases he
    · next hc => cases he; exact (configureTx_backKept hc).trans ⟨rfl, rfl⟩

theorem setRxMode_backKept (h : setRxMode c s = .ok t) : BackKept s t := by
  unfold setRxMode at h
  split_ifs at h
  rw [eq_of_rxModeSwitch_ok h]
  exact ⟨rfl, rfl⟩

theorem setTxMode_backKept (h : setTxMode c s = .ok t) : BackKept s t := by
  unfold setTxMode at h
  split_ifs at h
  rw [eq_of_txModeSwitch_ok h]
  exact ⟨rfl, rfl⟩

theorem setSyncWord_backKept {word len tol : Nat} (h : setSyncWord c word len tol s = .ok t) : BackKept s t := by
  unfold setSyncWord at h
  rw [writeSys_eq] at h
  split_ifs at h
  cases h
  exact ⟨rfl, rfl⟩

theorem enableAfc_backKept {range ki kp : Nat} (h : enableAfc c range ki kp s = .ok t) : BackKept s t := by
  unfold enableAfc at h
  rw [writeSys_eq] at h
  split_ifs at h
  cases h
  exact ⟨rfl, rfl⟩

theorem disableAfc_backKept (h : disableAfc c s = .ok t) : BackKept s t := by
  unfold disableAfc at h
  simp only [writeSys_eq] at h
  split_ifs at h
  cases h
  exact ⟨rfl, rfl⟩

theorem thenOk_backKept {r : Except Fault State} (hr : ∀ u, r = .ok u → BackKept s u) (h : thenOk r = .ok t) : BackKept s t := by
  obtain ⟨u, hu, rfl⟩ := thenOk_eq_ok.mp h
  exact (hr u hu).trans ⟨rfl, rfl⟩

theorem reconfigureAfc_backKept (h : reconfigureAfc c s = .ok t) : BackKept s t := by
  unfold reconfigureAfc at h
  split at h
  · exact enableAfc_backKept h
  · exact disableAfc_backKept h

theorem reconfigureCommand_backKept (h : reconfigureCommand c s = .ok t) : BackKept s t := by
  obtain ⟨s1, s2, s3, s4, s5, _, _, h1, h2, h3, h4, h5, rfl⟩ := reconfigureCommand_ok h
  have hconf : BackKept s s3 := ((setSyncWord_backKept h1).trans (configureRx_backKept h2)).trans (configureTx_backKept h3)
  have hmode : BackKept s3 s5 := (reconfigureAfc_backKept h4).trans (setRxMode_backKept h5)
  exact (hconf.trans hmode).trans ⟨rfl, rfl⟩

/-! ### Carrier sense, TX_START and CONFIG_SET -/

theorem transmitAllowed_backKept (c : Config) (s : State) : BackKept s (transmitAllowed c s).2 := by
  rw [transmitAllowed_eq]
  exact ⟨rfl, rfl⟩

theorem csCheckCommand_backKept (h : csCheckCommand c s = .ok t) : BackKept s t := by
  unfold csCheckCommand at h
  split_ifs at h
  cases h
  exact (transmitAllowed_backKept c s).trans ⟨rfl, rfl⟩

theorem startFrame_backKept {l : List Byte} {ft : FrameType} (h : startFrame c l ft s = .ok t) : BackKept s t := by
  unfold startFrame at h
  simp only at h
  split at h
  · cases h
  · split at h
    · cases h
    next hm =>
    cases h
    rw [eq_of_txModeSwitch_ok hm]
    exact ⟨rfl, backBuf_setFrontBuf _ s⟩

theorem txStartCommand_backKept (h : txStartCommand c s = .ok t) : BackKept s t := by
  have hsensed := transmitAllowed_backKept c s
  unfold txStartCommand at h
  generalize transmitAllowed c s = v at h hsensed
  have hpulled : BackKept s (hostPull c v.2).2 := hsensed.trans ⟨rfl, rfl⟩
  simp only at h
  generalize hostPull c v.2 = w at h hpulled
  split at h
  · cases h
  split at h
  · cases h; exact ⟨rfl, rfl⟩
  split at h
  · cases h; exact hsensed.trans ⟨rfl, rfl⟩
  split at h
  · cases h; exact hpulled.trans ⟨rfl, rfl⟩
  split at h
  · cases h
  split at h
  · cases h; exact hpulled.trans ⟨rfl, rfl⟩
  · exact hpulled.trans (startFrame_backKept h)

theorem configSetCommand_backKept {id : Byte} {v : ConfigArg} (h : configSetCommand id v s = .ok t) : BackKept s t := by
  unfold configSetCommand at h
  split at h <;> cases h <;> exact ⟨rfl, rfl⟩

/-! ### The drain (R265, R266) -/

/-- What a drain command leaves of the back buffer: its role, and all but the readings and the flags. -/
structure Drained (s t : State) : Prop where
  front : t.front = s.front
  back : ∃ rssi freq flags, backBuf t = { backBuf s with rssi := rssi, freq := freq, flags := flags }

theorem BackKept.drained (k : BackKept s t) : Drained s t := ⟨k.front, _, _, _, k.back⟩

theorem rxDrainBeginCommand_drained (h : rxDrainBeginCommand c s = .ok t) : Drained s t := by
  obtain ⟨rssi, freq, _, _, hd⟩ := drainReadings_frame c s
  unfold rxDrainBeginCommand at h
  simp only [hd] at h
  split at h
  · cases h; exact BackKept.drained ⟨rfl, rfl⟩
  · split at h
    · cases h; exact BackKept.drained ⟨rfl, rfl⟩
    · split at h
      · cases h
      · cases h; exact ⟨rfl, rssi, freq, (backBuf s).flags, backBuf_setBackBuf _ _⟩

theorem rxDrainEndCommand_drained (h : rxDrainEndCommand s = .ok t) : Drained s t := by
  unfold rxDrainEndCommand at h
  split at h
  · cases h; exact ⟨rfl, (backBuf s).rssi, (backBuf s).freq, clearReady (backBuf s).flags, backBuf_setBackBuf _ s⟩
  · cases h; exact BackKept.drained ⟨rfl, rfl⟩

/-! ### Every instruction -/

/-- What each instruction but the resets does to the back buffer. -/
theorem exec_backBuf {i : Instr} (h : exec i s = .next t) (hsoft : i ≠ .softReset) (hpower : i ≠ .evPowerUpReset) :
    BackUnwritten s t ∨ ((i = .rxDrainBegin ∨ i = .rxDrainEnd) ∧ Drained s t) := by
  cases i with
  | planClocks | readRssi | readAfcOffset | readTemperature | readSupplyVoltage | readChipVersion | regWrite | regRead | scrGenerate | scrApply
  | configGet | serialGet | fwRevGet => exact .inl (backKept_of_quiet (quiet_of_isQuery rfl h)).unwritten
  | powerOn => exact .inl (powerOnCommand_backKept (finish_eq_next.mp h)).unwritten
  | powerOff => exact .inl (powerOffCommand_backKept (finish_eq_next.mp h)).unwritten
  | configureRx => exact .inl (configureRxCommand_backKept (finish_eq_next.mp h)).unwritten
  | configureTx => exact .inl (configureTxCommand_backKept (finish_eq_next.mp h)).unwritten
  | setRxMode => exact .inl (thenOk_backKept (fun _ => setRxMode_backKept) (finish_eq_next.mp h)).unwritten
  | setTxMode => exact .inl (thenOk_backKept (fun _ => setTxMode_backKept) (finish_eq_next.mp h)).unwritten
  | setSyncWord => exact .inl (thenOk_backKept (fun _ => setSyncWord_backKept) (finish_eq_next.mp h)).unwritten
  | enableAfc => exact .inl (thenOk_backKept (fun _ => enableAfc_backKept) (finish_eq_next.mp h)).unwritten
  | disableAfc => exact .inl (thenOk_backKept (fun _ => disableAfc_backKept) (finish_eq_next.mp h)).unwritten
  | reconfigure => exact .inl (reconfigureCommand_backKept (finish_eq_next.mp h)).unwritten
  | csCheck => exact .inl (csCheckCommand_backKept (finish_eq_next.mp h)).unwritten
  | txStart => exact .inl (txStartCommand_backKept (finish_eq_next.mp h)).unwritten
  | configSet => exact .inl (configSetCommand_backKept (finish_eq_next.mp h)).unwritten
  | serialSet => cases h; exact .inl (BackKept.unwritten ⟨rfl, rfl⟩)
  | rxDrainBegin => exact .inr ⟨.inl rfl, rxDrainBeginCommand_drained (finish_eq_next.mp h)⟩
  | rxDrainEnd => exact .inr ⟨.inr rfl, rxDrainEndCommand_drained (finish_eq_next.mp h)⟩
  | evSyncDetect => exact .inl (evSyncDetect_cases (finish_eq_next.mp h)).1.unwritten
  | evByteClock => exact .inl (evByteClock_unwritten (finish_eq_next.mp h))
  | bootloaderEnter => cases h
  | softReset => exact absurd rfl hsoft
  | evPowerUpReset => exact absurd rfl hpower

/-- Settles O49: of the instructions only the drain commands and the resets write the back buffer, and the one swap needs it not ready. -/
theorem readyBackBufferIsImmutable : Obligations.ReadyBackBufferIsImmutable := by
  intro i s t h
  refine ⟨fun hi => ?handler, fun hready hsoft hpower => ?ready⟩
  case handler =>
    obtain rfl | ⟨b, rfl⟩ := hi
    · exact (evSyncDetect_cases (finish_eq_next.mp h)).1.unwritten.cell
    · exact (evByteClock_unwritten (finish_eq_next.mp h)).cell
  case ready =>
    obtain hback | ⟨hdrain, hfront, rssi, freq, flags, hback⟩ := exec_backBuf h hsoft hpower
    · have k := hback.kept hready
      exact ⟨k.front, fun _ _ => k.back, by rw [k.back]⟩
    · exact ⟨hfront, fun hb he => absurd hdrain (not_or.mpr ⟨hb, he⟩), by rw [hback]⟩

end Sys2Proof.Proofs
end

section
/-! PROOFS. Encoding and decoding are inverse to each other, and the opcodes no command has (R102 to R104, R107, R109, R110). -/

namespace Sys2Proof.Proofs

variable {α β : Type}

/-! ### What the decoder answers -/

theorem decode_of_read {op : Byte} {rd : Reader Instr} {l : List Byte} {x : Instr × List Byte} (hop : operandReader op = some rd)
    (hl : rd l = some x) : decode (op :: l) = .ok x := by
  simp only [decode, hop, hl]

theorem decode_eq_ok {l : List Byte} {x : Instr × List Byte} (h : decode l = .ok x) :
    ∃ op l' rd, l = op :: l' ∧ operandReader op = some rd ∧ rd l' = some x := by
  unfold decode at h
  split at h
  · cases h
  next op l' =>
  split at h
  · cases h
  next rd hop =>
  split at h
  · cases h
  next hl =>
  cases h
  exact ⟨op, l', rd, rfl, hop, hl⟩

/-- The opcode byte alone decides that it is unassigned. -/
theorem decode_eq_unassigned_iff {op : Byte} {l : List Byte} : decode (op :: l) = .error (.unassigned op) ↔ operandReader op = none := by
  cases hop : operandReader op with
  | none => simp only [decode, hop]
  | some rd => cases hl : rd l <;> simp [decode, hop, hl]

/-! ### Decode of encode (R102 to R104, R107) -/

/-- The reader of an opcode takes the operands of its command, and leaves what follows them. -/
theorem operandReader_opcode {i : Instr} (hi : i.wellFormed = true) (rest : List Byte) :
    ∃ rd, operandReader i.opcode = some rd ∧ rd (i.operandBytes ++ rest) = some (i, rest) := by
  cases i with
  | powerOff | setRxMode | setTxMode | disableAfc | readRssi | readAfcOffset | readTemperature | readSupplyVoltage | readChipVersion | reconfigure
  | csCheck | txStart | rxDrainBegin | rxDrainEnd | serialGet | fwRevGet | softReset | bootloaderEnter | evSyncDetect | evPowerUpReset
  | configGet | evByteClock => exact ⟨_, rfl, rfl⟩
  | powerOn | enableAfc | regWrite | serialSet => exact ⟨_, rfl, by simp [Instr.operandBytes, readU32_put]⟩
  | setSyncWord => exact ⟨_, rfl, by simp [Instr.operandBytes, readU32_put, readU8_put]⟩
  | planClocks | configureTx => exact ⟨_, rfl, by simp [Instr.operandBytes, readU32_put, readRat_put]⟩
  | configureRx => exact ⟨_, rfl, by simp [Instr.operandBytes, readU32_put, readRat_put, readU8_put]⟩
  | regRead => exact ⟨_, rfl, by simp [Instr.operandBytes, readSel_put]⟩
  | scrGenerate => exact ⟨_, rfl, by simp [Instr.operandBytes, readU16_put]⟩
  | scrApply data seq =>
    obtain ⟨hdata, hseq⟩ : data.length < 65536 ∧ seq.length < 65536 := by simpa [Instr.wellFormed, bytesWellFormed] using hi
    exact ⟨_, rfl, by simp [Instr.operandBytes, readBytes_put _ _ hdata, readBytes_put _ _ hseq]⟩
  | configSet id v => exact ⟨_, rfl, by simp [Instr.operandBytes, readU8_put, readCval_put id v rest hi]⟩

/-- Settles O2: each operand reader takes back what its writer wrote. -/
theorem decodeOfEncodeIsIdentity : Obligations.DecodeOfEncodeIsIdentity := by
  intro i rest hi
  obtain ⟨rd, hop, hread⟩ := operandReader_opcode hi rest
  exact decode_of_read hop hread

/-! ### Encode of decode (R102, R103, R110) -/

/-- What a reader takes is what the writer writes. -/
def Takes (rd : Reader α) (put : α → List Byte) : Prop := ∀ l a rest, rd l = some (a, rest) → l = put a ++ rest

/-- A reader with another one after it: what it took stands in front. -/
theorem Takes.bind {rd : Reader α} {put : α → List Byte} (hrd : Takes rd put) {k : α × List Byte → Option β} {l : List Byte} {x : β}
    (h : rd l >>= k = some x) : ∃ a l', l = put a ++ l' ∧ k (a, l') = some x := by
  obtain ⟨⟨a, l'⟩, hl, hk⟩ := Option.bind_eq_some_iff.mp h
  exact ⟨a, l', hrd l a l' hl, hk⟩

theorem takes_readU8 : Takes readU8 fun b => [b] := by
  intro l b rest h
  unfold readU8 at h
  split at h
  · cases h; rfl
  · cases h

/-- The bytes a word is cut into are the bytes it was put together from. -/
theorem putU16_append (b1 b0 : Byte) : putU16 (b1 ++ b0) = [b1, b0] := by
  have h1 : (b1 ++ b0).extractLsb' 8 8 = b1 := BitVec.extractLsb'_append_eq_left
  have h0 : (b1 ++ b0).extractLsb' 0 8 = b0 := BitVec.extractLsb'_append_eq_right
  exact congrArg₂ (fun x y => [x, y]) h1 h0

theorem putU32_append (b3 b2 b1 b0 : Byte) : putU32 (b3 ++ b2 ++ b1 ++ b0) = [b3, b2, b1, b0] := by
  have above (n k : Nat) (hi : BitVec n) (lo : Byte) : (hi ++ lo).extractLsb' (8 + k) 8 = hi.extractLsb' k 8 := by
    rw [BitVec.extractLsb'_append_eq_of_le (by omega), Nat.add_sub_cancel_left]
  have h3 : (b3 ++ b2 ++ b1 ++ b0).extractLsb' 24 8 = b3 :=
    (above _ 16 _ b0).trans ((above _ 8 _ b1).trans BitVec.extractLsb'_append_eq_left)
  have h2 : (b3 ++ b2 ++ b1 ++ b0).extractLsb' 16 8 = b2 := (above _ 8 _ b0).trans ((above _ 0 _ b1).trans BitVec.extractLsb'_append_eq_right)
  have h1 : (b3 ++ b2 ++ b1 ++ b0).extractLsb' 8 8 = b1 := (above _ 0 _ b0).trans BitVec.extractLsb'_append_eq_right
  have h0 : (b3 ++ b2 ++ b1 ++ b0).extractLsb' 0 8 = b0 := BitVec.extractLsb'_append_eq_right
  simp only [putU32, List.cons.injEq, and_true]
  exact ⟨h3, h2, h1, h0⟩

theorem takes_readU16 : Takes readU16 putU16 := by
  intro l v rest h
  unfold readU16 at h
  split at h
  · cases h; rw [putU16_append]; rfl
  · cases h

theorem takes_readU32 : Takes readU32 putU32 := by
  intro l v rest h
  unfold readU32 at h
  split at h
  · cases h; rw [putU32_append]; rfl
  · cases h

theorem takes_readRat : Takes readRat putRat := by
  intro l q rest h
  unfold readRat at h
  split at h
  · cases h
  next num l1 hnum =>
  split at h
  · cases h
  next den l2 hden =>
  cases h
  rw [takes_readU32 _ _ _ hnum, takes_readU32 _ _ _ hden, putRat, List.append_assoc]

theorem takes_readBytes : Takes readBytes putBytes := by
  intro l bytes rest h
  unfold readBytes at h
  split at h
  · cases h
  next n r hn =>
  split at h
  · next hle =>
    cases h
    have hlen : BitVec.ofNat 16 (r.take n.toNat).length = n := by simp [List.length_take, hle]
    rw [takes_readU16 _ _ _ hn, putBytes, hlen, List.append_assoc, List.take_append_drop]
  · cases h

theorem takes_readCval (id : Byte) : Takes (readCval id) putCval := by
  intro l v rest h
  unfold readCval at h
  split at h
  · cases h; rfl
  split at h
  · obtain ⟨⟨q, r⟩, hq, hv⟩ := Option.map_eq_some_iff.mp h
    cases hv
    exact takes_readRat _ _ _ hq
  split at h
  · obtain ⟨⟨b, r⟩, hb, hv⟩ := Option.map_eq_some_iff.mp h
    cases hv
    exact takes_readU8 _ _ _ hb
  · obtain ⟨⟨w, r⟩, hw, hv⟩ := Option.map_eq_some_iff.mp h
    cases hv
    exact takes_readU32 _ _ _ hw

/-- The byte form the decoder was given: the one the encoder writes, or a REG_READ whose selector byte has any bits 7:5 (R110). -/
def FormOf (op : Byte) (l : List Byte) (i : Instr) (rest : List Byte) : Prop :=
  op = i.opcode ∧ (l = i.operandBytes ++ rest ∨ ∃ b : Byte, i = .regRead (b.setWidth 5) ∧ l = b :: rest)

theorem formOf_return {op : Byte} {l l' rest : List Byte} {i j : Instr} (h : some (j, l') = some (i, rest))
    (hop : op.toNat = j.opcode.toNat) (hl : l = j.operandBytes ++ l') : FormOf op l i rest := by
  cases h
  exact ⟨BitVec.eq_of_toNat_eq hop, .inl hl⟩

/-- What the reader of an opcode takes is the byte form of the command it answers. -/
theorem formOf_operandReader {op : Byte} {rd : Reader Instr} {l rest : List Byte} {i : Instr} (hop : operandReader op = some rd)
    (h : rd l = some (i, rest)) : FormOf op l i rest := by
  unfold operandReader at hop
  split at hop
  case h_35 => cases hop
  all_goals
    rename_i hnum
    obtain rfl := Option.some.inj hop
  case h_1 => -- PLAN_CLOCKS
    obtain ⟨xtal, _, e1, h⟩ := takes_readU32.bind h
    obtain ⟨rate, _, e2, h⟩ := takes_readRat.bind h
    obtain ⟨q, _, e3, h⟩ := takes_readRat.bind h
    exact formOf_return h hnum (by simp [Instr.operandBytes, e1, e2, e3])
  case h_2 | h_17 | h_28 => -- POWER_ON, REG_WRITE, SERIAL_SET
    obtain ⟨w, _, e1, h⟩ := takes_readU32.bind h
    exact formOf_return h hnum e1
  case h_4 => -- CONFIGURE_RX
    obtain ⟨rate, _, e1, h⟩ := takes_readRat.bind h
    obtain ⟨q, _, e2, h⟩ := takes_readRat.bind h
    obtain ⟨freq, _, e3, h⟩ := takes_readU32.bind h
    obtain ⟨ifbw, _, e4, h⟩ := takes_readU8.bind h
    exact formOf_return h hnum (by simp [Instr.operandBytes, e1, e2, e3, e4])
  case h_5 => -- CONFIGURE_TX
    obtain ⟨rate, _, e1, h⟩ := takes_readRat.bind h
    obtain ⟨q, _, e2, h⟩ := takes_readRat.bind h
    obtain ⟨freq, _, e3, h⟩ := takes_readU32.bind h
    exact formOf_return h hnum (by simp [Instr.operandBytes, e1, e2, e3])
  case h_8 => -- SET_SYNC_WORD
    obtain ⟨word, _, e1, h⟩ := takes_readU32.bind h
    obtain ⟨len, _, e2, h⟩ := takes_readU8.bind h
    obtain ⟨tol, _, e3, h⟩ := takes_readU8.bind h
    exact formOf_return h hnum (by simp [Instr.operandBytes, e1, e2, e3])
  case h_9 => -- ENABLE_AFC
    obtain ⟨range, _, e1, h⟩ := takes_readU32.bind h
    obtain ⟨ki, _, e2, h⟩ := takes_readU32.bind h
    obtain ⟨kp, _, e3, h⟩ := takes_readU32.bind h
    exact formOf_return h hnum (by simp [Instr.operandBytes, e1, e2, e3])
  case h_18 => -- REG_READ: bits 7:5 of the selector byte are lost
    cases l with
    | nil => cases h
    | cons b l =>
      cases h
      exact ⟨BitVec.eq_of_toNat_eq hnum, .inr ⟨b, rfl, rfl⟩⟩
  case h_19 => -- SCR_GENERATE
    obtain ⟨len, _, e1, h⟩ := takes_readU16.bind h
    exact formOf_return h hnum e1
  case h_20 => -- SCR_APPLY
    obtain ⟨data, _, e1, h⟩ := takes_readBytes.bind h
    obtain ⟨seq, _, e2, h⟩ := takes_readBytes.bind h
    exact formOf_return h hnum (by simp [Instr.operandBytes, e1, e2])
  case h_25 | h_33 => -- CONFIG_GET, EV_BYTE_CLOCK
    obtain ⟨b, _, e1, h⟩ := takes_readU8.bind h
    exact formOf_return h hnum e1
  case h_26 => -- CONFIG_SET
    obtain ⟨id, _, e1, h⟩ := takes_readU8.bind h
    obtain ⟨v, _, e2, h⟩ := (takes_readCval id).bind h
    exact formOf_return h hnum (by simp [Instr.operandBytes, e1, e2])
  -- the commands without operands
  all_goals exact formOf_return h hnum rfl

/-- Settles O3: each operand reader takes what its writer writes, but for the selector byte. -/
theorem encodeOfDecodeIsIdentity : Obligations.EncodeOfDecodeIsIdentity := by
  intro l i rest h
  obtain ⟨op, l', rd, rfl, hop, hread⟩ := decode_eq_ok h
  obtain ⟨rfl, rfl | ⟨b, rfl, rfl⟩⟩ := formOf_operandReader hop hread
  · exact .inl rfl
  · exact .inr ⟨b, rfl, rfl⟩

/-! ### The opcode map (R107, R109) -/

/-- The opcodes without a reader, byte by byte. -/
theorem operandReader_eq_none_iff (op : Byte) : operandReader op = none ↔
    op = 0x00#8 ∨ (0x02#8 ≤ op ∧ op ≤ 0x0F#8) ∨ (0x21#8 ≤ op ∧ op ≤ 0x2F#8) ∨ (0x32#8 ≤ op ∧ op ≤ 0x3F#8)
      ∨ (0x44#8 ≤ op ∧ op ≤ 0x4F#8) ∨ (0x57#8 ≤ op ∧ op ≤ 0xDF#8) ∨ 0xE3#8 ≤ op := by
  rw [← Option.isNone_iff_eq_none]
  revert op
  decide

/-- Settles O4: an opcode byte is unassigned exactly if it has no reader. -/
theorem unassignedOpcodesAreTheListedOnes : Obligations.UnassignedOpcodesAreTheListedOnes :=
  fun op _ => decode_eq_unassigned_iff.trans (operandReader_eq_none_iff op)

/-- Settles O1: each form by running the decoder on it. -/
theorem decodesWrittenOutForms : Obligations.DecodesWrittenOutForms :=
  ⟨rfl, rfl, rfl, rfl, rfl, rfl, rfl, rfl⟩

end Sys2Proof.Proofs
end

section
/-! PROOFS. The drain of a received frame (R118, R265, R266). -/

namespace Sys2Proof.Proofs

open Sys2Proof.Machine Sys2Proof.Safety

variable {c : Config} {s : State}

/-! ### The readings (R265) -/

theorem drainReadings_of_on (hon : s.mode ≠ .off) (c : Config) : drainReadings c s =
    (rssiOf c (c.draws.readback s.drawCount c.selRssi), c.convAfc (c.draws.readback (s.drawCount + 1) c.selAfc), { s with
      history := s.history ++
        [.busRead c.selRssi (c.draws.readback s.drawCount c.selRssi), .busRead c.selAfc (c.draws.readback (s.drawCount + 1) c.selAfc)]
      drawCount := s.drawCount + 2 }) := by
  rw [drainReadings, if_pos (busOk_iff.mpr hon)]
  simp only [readRssi_eq, readAfcOffset, busRead_eq, List.append_assoc]
  rfl

theorem drainReadings_of_off (hoff : s.mode = .off) (c : Config) :
    drainReadings c s = (c.draws.rat s.drawCount, c.draws.rat (s.drawCount + 1), { s with drawCount := s.drawCount + 2 }) := by
  rw [drainReadings, if_neg (not_busOk_iff.mpr hoff)]
  rfl

/-- The readings of a drain: two draws, and on a powered chip the two readbacks they come from. -/
theorem drainReadings_reads (c : Config) (s : State) : ∃ rssi freq reads,
    drainReadings c s = (rssi, freq, { s with history := s.history ++ reads, drawCount := s.drawCount + 2 })
      ∧ (s.mode = .off → reads = [])
      ∧ (s.mode ≠ .off → ∃ w1 w2, reads = [.busRead c.selRssi w1, .busRead c.selAfc w2] ∧ rssi = rssiOf c w1 ∧ freq = c.convAfc w2) := by
  by_cases hoff : s.mode = .off
  · exact ⟨_, _, [], by rw [drainReadings_of_off hoff, List.append_nil], fun _ => rfl, absurd hoff⟩
  · exact ⟨_, _, _, drainReadings_of_on hoff c, fun h => absurd h hoff, fun _ => ⟨_, _, rfl, rfl, rfl⟩⟩

/-! ### RX_DRAIN_BEGIN (R265) -/

/-- The drain of a ready buffer whose body was written, with the readings and the body it reads. -/
theorem rxDrainBeginCommand_of_ready {rssi freq : Rat} {reads : List Event} {body : List Byte} (hready : (backBuf s).ready = true)
    (hfree : s.drainPending = false)
    (hreads : drainReadings c s = (rssi, freq, { s with history := s.history ++ reads, drawCount := s.drawCount + 2 }))
    (hbody : readPayloadFrom c (backBuf s).payload 0 (backBuf s).size = .ok body) :
    rxDrainBeginCommand c s = .ok { s with
      buf := s.buf.set (backIndex s) { backBuf s with rssi := rssi, freq := freq }, drainPending := true, drawCount := s.drawCount + 2
      history := s.history ++ reads ++ [.hostPush ⟨(backBuf s).size, rssi, freq, (backBuf s).flags, body⟩]
      reply := some ⟨.ok, some (.record ⟨(backBuf s).size, rssi, freq, (backBuf s).flags, body⟩)⟩ } := by
  have hback : backBuf { s with history := s.history ++ reads, drawCount := s.drawCount + 2 } = backBuf s := backBuf_congr rfl rfl
  rw [rxDrainBeginCommand, if_neg (not_not.mpr hready), if_neg (by simp [hfree]), hreads]
  simp only [hback, hbody]
  rfl

theorem rxDrainBeginCommand_of_not_ready (h : (backBuf s).ready = false) : rxDrainBeginCommand c s = .ok (answer .noFrame none s) := by
  rw [rxDrainBeginCommand, if_pos (by simp [h])]

theorem rxDrainBeginCommand_of_pending (hready : (backBuf s).ready = true) (hpending : s.drainPending = true) :
    rxDrainBeginCommand c s = .ok (answer .busy none s) := by
  rw [rxDrainBeginCommand, if_neg (not_not.mpr hready), if_pos hpending]

/-! ### RX_DRAIN_END (R266) -/

theorem rxDrainEndCommand_of_pending (h : s.drainPending = true) : rxDrainEndCommand s =
    .ok (answer .ok none { setBackBuf { backBuf s with flags := clearReady (backBuf s).flags } s with drainPending := false }) := by
  rw [rxDrainEndCommand, if_pos h]

theorem rxDrainEndCommand_of_not_pending (h : s.drainPending = false) : rxDrainEndCommand s = .ok (answer .noFrame none s) := by
  rw [rxDrainEndCommand, if_neg (by simp [h])]

/-- Settles O50: a written body is read whole, and the readings are the last thing drawn before the record is pushed. -/
theorem drainHandsTheFrameOver : Obligations.DrainHandsTheFrameOver := by
  intro s
  refine ⟨fun hready hfree hsize hwritten => ?begin, fun h => ?notReady, fun hready hpending => ?busy, fun h => ?finished, fun h => ?nothing⟩
  case begin =>
    obtain ⟨rssi, freq, reads, hreads, hoff, hon⟩ := drainReadings_reads Config.actual s
    have hcells : ∀ j < (backBuf s).size, Memory.read (backBuf s).payload (0 + j) ≠ none := fun j hj => by simpa using hwritten j hj
    obtain ⟨body, hbody⟩ := readPayloadFrom_answers (by simpa using hsize) hcells
    obtain ⟨hlen, hread⟩ := readPayloadFrom_ok hbody
    have hdrain := rxDrainBeginCommand_of_ready hready hfree hreads hbody
    refine ⟨⟨_, rssi, freq, _, body⟩, reads, finish_eq_next.mpr hdrain, rfl, rfl, hlen, fun j hj => ?_, hoff, hon⟩
    simpa using hread j (hlen ▸ hj)
  case notReady => exact finish_eq_next.mpr (rxDrainBeginCommand_of_not_ready h)
  case busy => exact finish_eq_next.mpr (rxDrainBeginCommand_of_pending hready hpending)
  case finished => exact finish_eq_next.mpr (rxDrainEndCommand_of_pending h)
  case nothing => exact finish_eq_next.mpr (rxDrainEndCommand_of_not_pending h)

end Sys2Proof.Proofs
end

section
/-! PROOFS. What each command returns to the host (R100, R105, R106, R109). -/

namespace Sys2Proof.Proofs

open Sys2Proof.Machine Sys2Proof.Safety

variable {c : Config} {i : Instr} {s t : State} {r : Except Fault State}

/-! ### The table of R106 -/

/-- The status codes each command can return (R106). -/
def listedStatuses : Instr → List Status
  | .planClocks _ _ _ | .configureRx _ _ _ _ | .configureTx _ _ _ => [.ok, .planFail, .invalid]
  | .reconfigure => [.ok, .planFail]
  | .configGet _ | .configSet _ _ => [.ok, .invalid]
  | .csCheck => [.ok, .denied]
  | .txStart => [.ok, .denied, .noFrame, .busy, .txDropped]
  | .rxDrainBegin => [.ok, .noFrame, .busy]
  | .rxDrainEnd => [.ok, .noFrame]
  | _ => [.ok]

theorem ok_listed (i : Instr) : .ok ∈ listedStatuses i := by
  cases i <;> simp [listedStatuses]

/-- A command that can be malformed: INVALID is the answer to a bad operand or a bad id (R109, R300, R301). -/
def TakesInvalid (i : Instr) : Prop := i.wellFormed = false ∨ (∃ id, i = .configGet id) ∨ ∃ id v, i = .configSet id v

/-- What `i` may return from `s` (R105, R106). -/
structure Returns (i : Instr) (s t : State) (r : Reply) : Prop where
  reply : t.reply = some r
  listed : r.status ∈ listedStatuses i
  invalid : r.status = .invalid → TakesInvalid i ∧ t = { s with reply := some ⟨.invalid, none⟩ }
  result : r.result ≠ none → r.status = .ok ∨ (i = .csCheck ∧ r = ⟨.denied, some (.bool false)⟩)

/-- Where a command of `i` ends: in a fault, or with one reply that the table lists. -/
def EndsListed (i : Instr) (s : State) : Except Fault State → Prop
  | .ok t => ∃ r, Returns i s t r
  | .error _ => True

theorem returns_ok {res : Option Result} (h : t.reply = some ⟨.ok, res⟩) : ∃ r, Returns i s t r :=
  ⟨_, h, ok_listed i, nofun, fun _ => .inl rfl⟩

/-- A status other than OK, without a result. -/
theorem returns_status {st : Status} (hlisted : st ∈ listedStatuses i) (hst : st ≠ .invalid) (u : State) :
    ∃ r, Returns i s (answer st none u) r :=
  ⟨_, rfl, hlisted, fun h => absurd h hst, fun h => absurd rfl h⟩

theorem returns_invalid (hlisted : .invalid ∈ listedStatuses i) (hi : TakesInvalid i) : ∃ r, Returns i s (answerInvalid s) r :=
  ⟨_, rfl, hlisted, fun _ => ⟨hi, rfl⟩, fun h => absurd rfl h⟩

/-- OK or PLAN_FAIL (R174, R188). -/
theorem returns_planStatus (hlisted : .planFail ∈ listedStatuses i) (ok : Bool) (u : State) :
    ∃ r, Returns i s (answer (planStatus ok) none u) r := by
  cases ok with
  | true => exact returns_ok rfl
  | false => exact returns_status hlisted (by decide) u

theorem malformed_of_ratMalformed {q h : RatArg} (hm : (ratMalformed q || ratMalformed h) = true) : (q.wellFormed && h.wellFormed) = false := by
  simpa [ratMalformed, RatArg.wellFormed, imp_iff_not_or] using hm

/-! ### The commands that answer OK alone -/

/-- An operation that faults or answers OK. -/
def AnswersOk (r : Except Fault State) : Prop := ∀ t, r = .ok t → ∃ res, t.reply = some ⟨.ok, res⟩

theorem AnswersOk.endsListed (h : AnswersOk r) : EndsListed i s r := by
  cases r with
  | error f => trivial
  | ok t => exact returns_ok (h t rfl).choose_spec

theorem answersOk_ok (res : Option Result) (u : State) : AnswersOk (.ok (answer .ok res u)) := by
  intro t h
  cases h
  exact ⟨res, rfl⟩

theorem answersOk_error (f : Fault) : AnswersOk (.error f) := by
  intro t h
  cases h

theorem answersOk_thenOk (r : Except Fault State) : AnswersOk (thenOk r) := by
  cases r with
  | error f => exact answersOk_error f
  | ok u => exact answersOk_ok none u

theorem answersOk_powerOn (c : Config) (xtal : Word) (s : State) : AnswersOk (powerOnCommand c xtal s) := by
  unfold powerOnCommand
  split
  · exact answersOk_error _
  split
  · exact answersOk_error _
  · exact answersOk_ok _ _

theorem answersOk_powerOff (s : State) : AnswersOk (powerOffCommand s) := by
  unfold powerOffCommand
  split
  · exact answersOk_ok _ _
  · exact answersOk_ok _ _

theorem answersOk_readCommand (c : Config) (sel : Selector) (conv : Word → Result) (s : State) : AnswersOk (readCommand c sel conv s) := by
  by_cases hoff : s.mode = .off
  · rw [readCommand_of_off hoff]
    exact answersOk_error _
  · rw [readCommand_of_on hoff]
    exact answersOk_ok (some (conv (c.draws.readback s.drawCount sel))) (busRead c sel s).2

theorem answersOk_regWrite (v : Word) (s : State) : AnswersOk (regWriteCommand v s) := by
  by_cases hoff : s.mode = .off
  · rw [regWriteCommand_of_off hoff]
    exact answersOk_error _
  · rw [regWriteCommand_of_on hoff]
    exact answersOk_ok _ _

theorem answersOk_scrApply (data seq : List Byte) (s : State) : AnswersOk (scrApplyCommand data seq s) := by
  unfold scrApplyCommand
  split
  · exact answersOk_error _
  · exact answersOk_ok _ _

/-- The reply is recorded before the reset, which keeps it (R306). -/
theorem answersOk_softReset (c : Config) (s : State) : AnswersOk (softResetCommand c s) := by
  intro t h
  cases h
  refine ⟨none, ?_⟩
  change (releaseCe (releaseTr (answer .ok none s))).reply = _
  rw [releaseCe_eq, releaseTr_eq]
  rfl

/-! ### The commands with other statuses -/

theorem planClocks_endsListed (c : Config) (xtal : Word) (q h : RatArg) (s : State) :
    EndsListed (.planClocks xtal q h) s (planClocksCommand c xtal q h s) := by
  unfold planClocksCommand
  split
  · next hm => exact returns_invalid (by simp [listedStatuses]) (.inl (malformed_of_ratMalformed hm))
  split
  · split
    · exact returns_status (by simp [listedStatuses]) (by decide) s
    · exact returns_ok rfl
  · trivial

theorem configureRx_endsListed (c : Config) (q h : RatArg) (freq : Word) (ifbw : Byte) (s : State) :
    EndsListed (.configureRx q h freq ifbw) s (configureRxCommand c q h freq ifbw s) := by
  unfold configureRxCommand
  split
  · next hm => exact returns_invalid (by simp [listedStatuses]) (.inl (malformed_of_ratMalformed hm))
  split
  · trivial
  · exact returns_planStatus (by simp [listedStatuses]) _ _

theorem configureTx_endsListed (c : Config) (q h : RatArg) (freq : Word) (s : State) :
    EndsListed (.configureTx q h freq) s (configureTxCommand c q h freq s) := by
  unfold configureTxCommand
  split
  · next hm => exact returns_invalid (by simp [listedStatuses]) (.inl (malformed_of_ratMalformed hm))
  split
  · trivial
  · exact returns_planStatus (by simp [listedStatuses]) _ _

theorem reconfigure_endsListed (c : Config) (s : State) : EndsListed .reconfigure s (reconfigureCommand c s) := by
  cases hr : reconfigureCommand c s with
  | error f => trivial
  | ok t =>
    obtain ⟨_, _, _, _, s5, okRx, okTx, -, -, -, -, -, rfl⟩ := reconfigureCommand_ok hr
    exact returns_planStatus (by simp [listedStatuses]) _ s5

theorem configGet_endsListed (id : Byte) (s : State) : EndsListed (.configGet id) s (configGetCommand id s) := by
  unfold configGetCommand
  split
  · exact returns_ok rfl
  split
  · exact returns_invalid (by simp [listedStatuses]) (.inr (.inl ⟨id, rfl⟩))
  · exact returns_ok rfl

theorem configSet_endsListed (id : Byte) (v : ConfigArg) (s : State) : EndsListed (.configSet id v) s (configSetCommand id v s) := by
  unfold configSetCommand
  split
  · exact returns_invalid (by simp [listedStatuses]) (.inr (.inr ⟨id, v, rfl⟩))
  · exact returns_ok rfl

/-- The one command with a result beside a status other than OK (R105, R270). -/
theorem csCheck_endsListed (c : Config) (s : State) : EndsListed .csCheck s (csCheckCommand c s) := by
  unfold csCheckCommand
  split
  · trivial
  simp only
  cases (transmitAllowed c s).1 with
  | true => exact returns_ok rfl
  | false => exact ⟨_, rfl, by simp [listedStatuses], nofun, fun _ => .inr ⟨rfl, rfl⟩⟩

theorem startFrame_answersOk (c : Config) (f : List Byte) (ft : FrameType) (s : State) : AnswersOk (startFrame c f ft s) := by
  unfold startFrame
  simp only
  split
  · exact answersOk_error _
  split
  · exact answersOk_error _
  · exact answersOk_ok _ _

theorem txStart_endsListed (c : Config) (s : State) : EndsListed .txStart s (txStartCommand c s) := by
  unfold txStartCommand
  split
  · trivial
  split
  · exact returns_status (by simp [listedStatuses]) (by decide) s
  simp only
  split
  · exact returns_status (by simp [listedStatuses]) (by decide) _
  split
  · exact returns_status (by simp [listedStatuses]) (by decide) _
  split
  · trivial
  split
  · exact returns_status (by simp [listedStatuses]) (by decide) _
  · exact (startFrame_answersOk c _ _ _).endsListed

theorem rxDrainBegin_endsListed (c : Config) (s : State) : EndsListed .rxDrainBegin s (rxDrainBeginCommand c s) := by
  unfold rxDrainBeginCommand
  split
  · exact returns_status (by simp [listedStatuses]) (by decide) s
  split
  · exact returns_status (by simp [listedStatuses]) (by decide) s
  simp only
  split
  · trivial
  · exact returns_ok rfl

theorem rxDrainEnd_endsListed (s : State) : EndsListed .rxDrainEnd s (rxDrainEndCommand s) := by
  unfold rxDrainEndCommand
  split
  · exact returns_ok rfl
  · exact returns_status (by simp [listedStatuses]) (by decide) s

/-! ### Every command -/

theorem EndsListed.returns (h : EndsListed i s r) (hr : finish r = .next t) : ∃ q, Returns i s t q := by
  rw [finish_eq_next.mp hr] at h
  exact h

/-- Every command that does not stop returns one status of the table. -/
theorem exec_returns (hi : i.isEvent = false) (h : exec i s = .next t) : ∃ r, Returns i s t r := by
  cases i with
  | evSyncDetect | evByteClock | evPowerUpReset => cases hi
  | bootloaderEnter => cases h
  | planClocks => exact (planClocks_endsListed _ _ _ _ s).returns h
  | configureRx => exact (configureRx_endsListed _ _ _ _ _ s).returns h
  | configureTx => exact (configureTx_endsListed _ _ _ _ s).returns h
  | reconfigure => exact (reconfigure_endsListed _ s).returns h
  | configGet id => exact (configGet_endsListed id s).returns h
  | configSet id v => exact (configSet_endsListed id v s).returns h
  | csCheck => exact (csCheck_endsListed _ s).returns h
  | txStart => exact (txStart_endsListed _ s).returns h
  | rxDrainBegin => exact (rxDrainBegin_endsListed _ s).returns h
  | rxDrainEnd => exact (rxDrainEnd_endsListed s).returns h
  | powerOn xtal => exact (answersOk_powerOn _ xtal s).endsListed.returns h
  | powerOff => exact (answersOk_powerOff s).endsListed.returns h
  | setRxMode | setTxMode | setSyncWord | enableAfc | disableAfc => exact (answersOk_thenOk _).endsListed.returns h
  | readRssi | readAfcOffset | readTemperature | readSupplyVoltage | readChipVersion | regRead =>
    exact (answersOk_readCommand _ _ _ s).endsListed.returns h
  | regWrite v => exact (answersOk_regWrite v s).endsListed.returns h
  | scrApply data seq => exact (answersOk_scrApply data seq s).endsListed.returns h
  | scrGenerate | serialGet | serialSet | fwRevGet => exact (answersOk_ok _ _).endsListed.returns h
  | softReset => exact (answersOk_softReset _ s).endsListed.returns h

/-! ### The table read by status -/

theorem denied_listed : .denied ∈ listedStatuses i → i = .csCheck ∨ i = .txStart := by
  cases i <;> simp [listedStatuses]

theorem planFail_listed : .planFail ∈ listedStatuses i → (∃ x q h, i = .planClocks x q h) ∨ (∃ q h f b, i = .configureRx q h f b)
    ∨ (∃ q h f, i = .configureTx q h f) ∨ i = .reconfigure := by
  cases i <;> simp [listedStatuses]

theorem noFrame_listed : .noFrame ∈ listedStatuses i → i = .txStart ∨ i = .rxDrainBegin ∨ i = .rxDrainEnd := by
  cases i <;> simp [listedStatuses]

theorem busy_listed : .busy ∈ listedStatuses i → i = .txStart ∨ i = .rxDrainBegin := by
  cases i <;> simp [listedStatuses]

theorem txDropped_listed : .txDropped ∈ listedStatuses i → i = .txStart := by
  cases i <;> simp [listedStatuses]

/-- Settles O40: each command's replies are among those listed for it, and the list is the table of R106 read by command. -/
theorem statusesComeFromTheListedCommands : Obligations.StatusesComeFromTheListedCommands := by
  refine ⟨rfl, fun i s t hi h => ?_⟩
  obtain ⟨r, hreply, hlisted, hinvalid, hresult⟩ := exec_returns hi h
  exact ⟨r, hreply, fun e => denied_listed (e ▸ hlisted), fun e => planFail_listed (e ▸ hlisted), fun e => noFrame_listed (e ▸ hlisted),
    fun e => busy_listed (e ▸ hlisted), fun e => txDropped_listed (e ▸ hlisted), hinvalid, hresult⟩

end Sys2Proof.Proofs
end

section
/-! PROOFS. BOOT: POWER_ON, then RECONFIGURE with settings that plan (R122, R171, R188, R372). -/

namespace Sys2Proof.Proofs

open Sys2Proof.Machine Sys2Proof.Safety

variable {c : Config} {s t u : State}

/-! ### Instructions one after another -/

theorem execAll_cons {i : Instr} {l : List Instr} (h : exec i s = .next t) : execAll (i :: l) s = execAll l t := by
  simp only [execAll, h]

theorem execAll_append {l m : List Instr} (h : execAll l s = .next t) : execAll (l ++ m) s = execAll m t := by
  induction l generalizing s with
  | nil => cases h; rfl
  | cons i l ih =>
    rw [execAll] at h
    split at h
    · next u hu => rw [List.cons_append, execAll_cons hu, ih h]
    · cases h
    · cases h

/-! ### POWER_ON (R171) -/

/-- POWER_ON between frames: the chip is brought up, the block idle, and what is configured and received stays. -/
theorem powerOnCommand_completes {xtal : Word} (hx : xtal ≠ 0#32) (hb : betweenFrames s = true) (c : Config) :
    ∃ t, powerOnCommand c xtal s = .ok t ∧ t.mode = .idle ∧ betweenFrames t = true ∧ t.ce = true ∧ t.xtalHz = xtal.toNat ∧ t.cfg = s.cfg
      ∧ t.buf = s.buf := by
  have hpos : ¬ xtal.toNat = 0 := fun h => hx (BitVec.eq_of_toNat_eq h)
  rw [powerOnCommand, if_neg hpos, if_neg (not_not.mpr hb)]
  simp only [writeSys_eq, releaseTr_eq]
  exact ⟨_, rfl, rfl, hb, rfl, rfl, rfl, rfl⟩

/-! ### The parts of RECONFIGURE on a powered chip (R174 to R182, R188) -/

/-- What every part of RECONFIGURE before its mode switch leaves alone. -/
structure BaseKept (s t : State) : Prop where
  mode : t.mode = s.mode
  frame : betweenFrames t = betweenFrames s
  ce : t.ce = s.ce
  xtalHz : t.xtalHz = s.xtalHz
  cfg : t.cfg = s.cfg
  buf : t.buf = s.buf

theorem BaseKept.trans (k : BaseKept s t) (k' : BaseKept t u) : BaseKept s u :=
  ⟨k'.mode.trans k.mode, k'.frame.trans k.frame, k'.ce.trans k.ce, k'.xtalHz.trans k.xtalHz, k'.cfg.trans k.cfg, k'.buf.trans k.buf⟩

theorem setSyncWord_completes (hon : s.mode ≠ .off) (c : Config) (word len tol : Nat) :
    ∃ t, setSyncWord c word len tol s = .ok t ∧ BaseKept s t := by
  rw [setSyncWord, if_neg (not_not.mpr (busOk_iff.mpr hon)), writeSys_eq]
  exact ⟨_, rfl, rfl, rfl, rfl, rfl, rfl, rfl⟩

/-- The plans, the RX image and the PA are not the AFC part's. -/
theorem reconfigureAfc_completes (hon : s.mode ≠ .off) (c : Config) : ∃ t, reconfigureAfc c s = .ok t ∧ BaseKept s t
    ∧ t.planRx = s.planRx ∧ t.planTx = s.planTx ∧ t.stageRx = s.stageRx ∧ t.paWarm = s.paWarm := by
  have hbus := not_not.mpr (busOk_iff.mpr hon)
  unfold reconfigureAfc
  split
  · rw [enableAfc, if_neg hbus, writeSys_eq]
    exact ⟨_, rfl, ⟨rfl, rfl, rfl, rfl, rfl, rfl⟩, rfl, rfl, rfl, rfl⟩
  · rw [disableAfc, if_neg hbus]
    simp only [writeSys_eq]
    exact ⟨_, rfl, ⟨rfl, rfl, rfl, rfl, rfl, rfl⟩, rfl, rfl, rfl, rfl⟩

/-- Settings that the planner has a plan for at a crystal frequency (R174). -/
structure Plannable (c : Config) (x : Nat) (rate h : Rat) (freq : Nat) : Prop where
  xtal_pos : 0 < x
  rate_pos : 0 < rate
  modIndex_pos : 0 < h
  freq_pos : 0 < freq
  planned : planClocks c x rate h ≠ none

theorem configurePlan_of_plannable {rate h : Rat} {freq : Nat} (hp : Plannable c s.xtalHz rate h freq) (d : Dir) :
    ∃ p, configurePlan c d rate h freq s = .ok (some p) := by
  obtain ⟨hxtal, hrate, hmod, hfreq, hplan⟩ := hp
  obtain ⟨r, hr⟩ := Option.ne_none_iff_exists'.mp hplan
  rw [configurePlan, if_pos ⟨hxtal, hrate, hmod, hfreq⟩, hr]
  exact ⟨_, rfl⟩

/-- A plan for RX, its whole sequence staged (R175). -/
theorem configureRx_completes {rate h : Rat} {freq : Nat} (hp : Plannable c s.xtalHz rate h freq) (ifbw : Nat) :
    ∃ t, configureRx c rate h freq ifbw s = .ok (true, t) ∧ BaseKept s t ∧ t.planRx ≠ none ∧ Staged t.stageRx c.rxSeq := by
  obtain ⟨p, hplan⟩ := configurePlan_of_plannable hp .rx
  simp only [configureRx, hplan]
  exact ⟨_, rfl, ⟨rfl, rfl, rfl, rfl, rfl, rfl⟩, nofun, staged_stageAll _ c.rxSeq s.stageRx⟩

/-- A plan for TX; the PA is to be warmed again, and what is staged for RX is left (R176). -/
theorem configureTx_completes {rate h : Rat} {freq : Nat} (hp : Plannable c s.xtalHz rate h freq) :
    ∃ t, configureTx c rate h freq s = .ok (true, t) ∧ BaseKept s t ∧ t.planRx = s.planRx ∧ t.planTx ≠ none ∧ t.stageRx = s.stageRx
      ∧ t.paWarm = false := by
  obtain ⟨p, hplan⟩ := configurePlan_of_plannable hp .tx
  simp only [configureTx, hplan]
  exact ⟨_, rfl, ⟨rfl, rfl, rfl, rfl, rfl, rfl⟩, rfl, nofun, rfl, rfl⟩

theorem setRxMode_completes (hon : s.mode ≠ .off) (hplan : s.planRx ≠ none) (hb : betweenFrames s = true) (hstaged : Staged s.stageRx c.rxSeq) :
    setRxMode c s = .ok { s with mode := .receiving, trsw := false, syncArmed := true, history := s.history ++ rxSwitchEvents c s } := by
  rw [setRxMode, if_neg (not_not.mpr (busOk_iff.mpr hon)), if_neg hplan, if_neg (not_not.mpr hb), rxModeSwitch_eq hstaged]

/-! ### RECONFIGURE (R188) -/

/-- RECONFIGURE from the answers of its parts. -/
theorem reconfigureCommand_of_parts {s1 s2 s3 s4 s5 : State} {okRx okTx : Bool} (hon : s.mode ≠ .off) (hb : betweenFrames s = true)
    (h1 : setSyncWord c s.cfg.syncWord s.cfg.syncLen s.cfg.syncTol s = .ok s1)
    (h2 : configureRx c s1.cfg.bitrate s1.cfg.modIndex s1.cfg.rxFreq s1.cfg.ifBwClass s1 = .ok (okRx, s2))
    (h3 : configureTx c s2.cfg.bitrate s2.cfg.modIndex s2.cfg.txFreq s2 = .ok (okTx, s3))
    (h4 : reconfigureAfc c s3 = .ok s4) (h5 : setRxMode c s4 = .ok s5) :
    reconfigureCommand c s = .ok (answer (planStatus (okRx && okTx)) none s5) := by
  rw [reconfigureCommand, if_neg (not_not.mpr (busOk_iff.mpr hon)), if_neg (not_not.mpr hb)]
  simp only [h1, h2, h3, h4, h5]

/-- What RECONFIGURE leaves where its settings plan: both directions planned, and the block receiving. -/
structure Reconfigured (s t : State) : Prop where
  mode : t.mode = .receiving
  armed : t.syncArmed = true
  planRx : t.planRx ≠ none
  planTx : t.planTx ≠ none
  paWarm : t.paWarm = false
  trsw : t.trsw = false
  ce : t.ce = s.ce
  cfg : t.cfg = s.cfg
  buf : t.buf = s.buf
  reply : t.reply = some ⟨.ok, none⟩

theorem reconfigureCommand_completes (hon : s.mode ≠ .off) (hb : betweenFrames s = true)
    (hrx : Plannable c s.xtalHz s.cfg.bitrate s.cfg.modIndex s.cfg.rxFreq) (htx : Plannable c s.xtalHz s.cfg.bitrate s.cfg.modIndex s.cfg.txFreq) :
    ∃ t, reconfigureCommand c s = .ok t ∧ Reconfigured s t := by
  obtain ⟨s1, h1, k1⟩ := setSyncWord_completes hon c s.cfg.syncWord s.cfg.syncLen s.cfg.syncTol
  rw [← k1.xtalHz, ← k1.cfg] at hrx
  obtain ⟨s2, h2, k2, hplanRx, hstaged⟩ := configureRx_completes hrx s1.cfg.ifBwClass
  have k12 := k1.trans k2
  rw [← k12.xtalHz, ← k12.cfg] at htx
  obtain ⟨s3, h3, k3, hkeepRx, hplanTx, hkeepStage, hcold⟩ := configureTx_completes htx
  have k123 := k12.trans k3
  obtain ⟨s4, h4, k4, hRx, hTx, hStage, hWarm⟩ := reconfigureAfc_completes (k123.mode ▸ hon) c
  have k := k123.trans k4
  have hplan4 : s4.planRx ≠ none := by rwa [hRx, hkeepRx]
  have hstaged4 : Staged s4.stageRx c.rxSeq := by rwa [hStage, hkeepStage]
  have h5 := setRxMode_completes (k.mode ▸ hon) hplan4 (k.frame.trans hb) hstaged4
  exact ⟨_, reconfigureCommand_of_parts hon hb h1 h2 h3 h4 h5, {
    mode := rfl
    armed := rfl
    planRx := hplan4
    planTx := ne_of_eq_of_ne hTx hplanTx
    paWarm := hWarm.trans hcold
    trsw := rfl
    ce := k.ce
    cfg := k.cfg
    buf := k.buf
    reply := rfl }⟩

/-- Settles O35: the chip is brought up idle and between frames, where RECONFIGURE plans both directions and switches to RX. -/
theorem bootReachesReceiving : Obligations.BootReachesReceiving := by
  refine ⟨fun _ => rfl, fun xtal s hx hframe hrate hmod hrx htx hplan => ?_⟩
  have hb := not_midFrame_iff.mp hframe
  have hpos : 0 < xtal.toNat := Nat.pos_of_ne_zero fun h => hx (BitVec.eq_of_toNat_eq h)
  obtain ⟨u, hpower, hidle, hframe, hce, hxtal, hcfg, hbuf⟩ := powerOnCommand_completes hx hb Config.actual
  rw [← hxtal] at hpos hplan
  rw [← hcfg] at hrate hmod hrx htx hplan
  have hon : u.mode ≠ .off := by simp [hidle]
  obtain ⟨t, hre, k⟩ := reconfigureCommand_completes hon hframe ⟨hpos, hrate, hmod, hrx, hplan⟩ ⟨hpos, hrate, hmod, htx, hplan⟩
  have hrun : execAll [.powerOn xtal, .reconfigure] s = .next t :=
    (execAll_cons (i := .powerOn xtal) (finish_eq_next.mpr hpower)).trans (execAll_cons (i := .reconfigure) (finish_eq_next.mpr hre))
  exact ⟨t, hrun, k.mode, k.armed, k.ce.trans hce, k.trsw, k.planRx, k.planTx, k.paWarm, k.cfg.trans hcfg, k.buf.trans hbuf, k.reply⟩

end Sys2Proof.Proofs
end

section
/-! PROOFS. The air byte stream of one frame: a loaded frame is presented byte by byte, one for each byte clock (R119, R256 to R258). -/

namespace Sys2Proof.Proofs

open Sys2Proof.Machine Sys2Proof.Safety

variable {c : Config} {s t : State} {f air rest : List Byte} {x : Byte}

/-! ### The stream still to be presented -/

/-- Where the counters of a frame in transmission stand in each sub-state (R256 to R258). -/
def SendPlace (c : Config) (b : FrameBuffer) (pre : Nat) : TxState → Prop
  | .idle => False
  | .training => 0 < b.trainingRemaining ∧ b.progress = 0
  | .preamble => pre ≤ c.callsign.length ∧ b.progress = 0
  | .body => b.progress ≤ b.size

/-- The part of the air stream of `f` that is still to be presented in each sub-state (R119). -/
def airLeft (c : Config) (f : List Byte) (ft : FrameType) (b : FrameBuffer) (pre : Nat) : TxState → List Byte
  | .idle => []
  | .training => airFrame c b.trainingRemaining ft f
  | .preamble => (txPreamble c ft).drop pre ++ f
  | .body => f.drop b.progress

/-- The frame `f` is loaded and being sent, and `air` is still to be presented. -/
structure Sending (c : Config) (f air : List Byte) (s : State) : Prop where
  clock : s.byteclkEn = true
  size : (frontBuf s).size = f.length
  fits : f.length ≤ c.maxPayload
  holds : Holds (frontBuf s).payload f
  place : SendPlace c (frontBuf s) s.preIdx s.txState
  left : airLeft c f s.ftype (frontBuf s) s.preIdx s.txState = air

theorem Sending.tx_busy (h : Sending c f air s) : s.txState ≠ .idle := by
  intro ht
  have hplace := h.place
  rw [ht] at hplace
  exact hplace

/-- The counters move, and the frame stays loaded. -/
theorem Sending.move {b : FrameBuffer} {tx : TxState} (h : Sending c f air s) (hclk : t.byteclkEn = s.byteclkEn) (hfront : frontBuf t = b)
    (hsize : b.size = (frontBuf s).size) (hpayload : b.payload = (frontBuf s).payload) (htx : t.txState = tx) (hplace : SendPlace c b t.preIdx tx)
    (hleft : airLeft c f t.ftype b t.preIdx tx = rest) : Sending c f rest t := by
  subst hfront htx
  exact ⟨hclk.trans h.clock, hsize.trans h.size, h.fits, hpayload ▸ h.holds, hplace, hleft⟩

/-- One byte clock presented `x`, and the rest of the stream is left. -/
structure Presented (c : Config) (f : List Byte) (x : Byte) (rest : List Byte) (s t : State) : Prop where
  sending : Sending c f rest t
  history : t.history = s.history ++ [.byteClock, .txOut x]
  mode : t.mode = s.mode

theorem eq_of_drop_eq_cons {n : Nat} {l : List Byte} (h : l.drop n = x :: rest) : l[n]? = some x ∧ l.drop (n + 1) = rest := by
  constructor
  · rw [← Nat.add_zero n, ← List.getElem?_drop, h]; rfl
  · rw [← List.tail_drop, h]; rfl

/-! ### One byte clock in each sub-state (R256 to R258) -/

theorem history_txOut (x : Byte) (s : State) : (txOut x (record .byteClock s)).history = s.history ++ [.byteClock, .txOut x] := by
  rw [txOut_history, record_history, List.append_assoc]
  rfl

theorem trainingByte_presents (h : Sending c f (x :: rest) s) (ht : s.txState = .training) :
    ∃ t, trainingByte c (record .byteClock s) = .ok t ∧ Presented c f x rest s t := by
  obtain ⟨hpos, hprogress⟩ : 0 < (frontBuf s).trainingRemaining ∧ (frontBuf s).progress = 0 := by
    have hplace := h.place
    rwa [ht] at hplace
  obtain ⟨n, hn⟩ : ∃ n, (frontBuf s).trainingRemaining = n + 1 := Nat.exists_eq_add_one.mpr hpos
  obtain ⟨rfl, rfl⟩ : c.trainingSymbol = x ∧ airFrame c n s.ftype f = rest := by
    have hleft := h.left
    rw [ht] at hleft
    simpa [airLeft, hn, airFrame, List.replicate_succ] using hleft
  have hfront : frontBuf (record .byteClock s) = frontBuf s := frontBuf_congr rfl rfl
  simp only [trainingByte, hfront, hn, Nat.add_one_ne_zero, if_false, Nat.add_sub_cancel]
  refine ⟨_, rfl, ?_⟩
  split
  · next hlast =>
    obtain rfl : n = 0 := Nat.succ.inj hlast
    exact ⟨h.move rfl (frontBuf_setFrontBuf _ _) rfl rfl (tx := .preamble) rfl ⟨Nat.zero_le _, hprogress⟩ rfl, history_txOut _ s, rfl⟩
  · next hmore =>
    have hn0 : 0 < n := by omega
    exact ⟨h.move rfl (frontBuf_setFrontBuf _ _) rfl rfl (tx := .training) ht ⟨hn0, hprogress⟩ rfl, history_txOut _ s, rfl⟩

theorem preambleByte_presents (h : Sending c f (x :: rest) s) (ht : s.txState = .preamble) :
    ∃ t, preambleByte c (record .byteClock s) = .ok t ∧ Presented c f x rest s t := by
  obtain ⟨hpre, hprogress⟩ : s.preIdx ≤ c.callsign.length ∧ (frontBuf s).progress = 0 := by
    have hplace := h.place
    rwa [ht] at hplace
  have hlen : (txPreamble c s.ftype).length = c.callsign.length + 1 := by simp [txPreamble]
  obtain ⟨hbyte, hrest⟩ : (txPreamble c (record .byteClock s).ftype)[(record .byteClock s).preIdx]? = some x ∧
      (txPreamble c s.ftype).drop (s.preIdx + 1) ++ f = rest := by
    have hleft := h.left
    rw [ht, airLeft, List.drop_eq_getElem_cons (by omega), List.cons_append] at hleft
    obtain ⟨rfl, rfl⟩ := List.cons.inj hleft
    exact ⟨List.getElem?_eq_getElem _, rfl⟩
  unfold preambleByte
  rw [hbyte]
  refine ⟨_, rfl, ?_⟩
  split
  · next hlast =>
    rw [record_preIdx] at hlast
    have hleft : airLeft c f s.ftype (frontBuf s) (s.preIdx + 1) .body = rest := by
      rw [← hrest, List.drop_eq_nil_of_le (by omega), airLeft, hprogress]
      rfl
    exact ⟨h.move rfl (frontBuf_congr rfl rfl) rfl rfl (tx := .body) rfl (hprogress.trans_le (Nat.zero_le _)) hleft, history_txOut x s, rfl⟩
  · next hmore =>
    rw [record_preIdx] at hmore
    have hpre' : s.preIdx + 1 ≤ c.callsign.length := by omega
    exact ⟨h.move rfl (frontBuf_congr rfl rfl) rfl rfl (tx := .preamble) ht ⟨hpre', hprogress⟩ hrest, history_txOut x s, rfl⟩

theorem txBodyByte_presents (h : Sending c f (x :: rest) s) (ht : s.txState = .body) :
    ∃ t, txBodyByte c (record .byteClock s) = .ok t ∧ Presented c f x rest s t := by
  obtain ⟨hbyte, hrest⟩ : f[(frontBuf s).progress]? = some x ∧ f.drop ((frontBuf s).progress + 1) = rest := by
    have hleft := h.left
    rw [ht] at hleft
    exact eq_of_drop_eq_cons hleft
  obtain ⟨hlt, -⟩ := List.getElem?_eq_some_iff.mp hbyte
  have hfront : frontBuf (record .byteClock s) = frontBuf s := frontBuf_congr rfl rfl
  have hread : readPayload c (frontBuf s).payload (frontBuf s).progress = .ok x :=
    readPayload_ok.mpr ⟨hlt.trans_le h.fits, (h.holds _ hlt).trans hbyte⟩
  rw [← h.size] at hlt
  simp only [txBodyByte, hfront, hlt, if_true, hread]
  exact ⟨_, rfl, h.move rfl (frontBuf_setFrontBuf _ _) rfl rfl (tx := .body) ht hlt hrest, history_txOut x s, rfl⟩

/-- One byte clock of a frame being sent (R249). -/
theorem evByteClock_presents (h : Sending c f (x :: rest) s) (b : Byte) : ∃ t, evByteClock c b s = .ok t ∧ Presented c f x rest s t := by
  rw [evByteClock, h.clock, takeEvent_true, byteClockHandler, if_pos h.tx_busy, txByte]
  cases ht : s.txState with
  | idle => exact absurd ht h.tx_busy
  | training => simpa only [record_txState, ht] using trainingByte_presents h ht
  | preamble => simpa only [record_txState, ht] using preambleByte_presents h ht
  | body => simpa only [record_txState, ht] using txBodyByte_presents h ht

/-! ### The whole stream (R119) -/

/-- The events that present bytes, one byte clock each. -/
def airEvents (l : List Byte) : List Event := l.flatMap fun x => [.byteClock, .txOut x]

/-- As many byte clocks as the stream has bytes left present it whole. -/
theorem execAll_presents {bytes : List Byte} (h : Sending Config.actual f air s) (hlen : bytes.length = air.length) :
    ∃ t, execAll (bytes.map .evByteClock) s = .next t ∧ Sending Config.actual f [] t ∧ t.history = s.history ++ airEvents air
      ∧ t.mode = s.mode := by
  induction air generalizing s bytes with
  | nil =>
    obtain rfl := List.eq_nil_of_length_eq_zero hlen
    exact ⟨s, rfl, h, (List.append_nil _).symm, rfl⟩
  | cons x air ih =>
    obtain ⟨b, bytes, rfl⟩ := List.exists_cons_of_length_eq_add_one hlen
    obtain ⟨u, hu, hsending, hhistory, hmode⟩ := evByteClock_presents h b
    obtain ⟨t, ht, hdone, hhistory', hmode'⟩ := ih hsending (Nat.succ.inj hlen)
    refine ⟨t, ?_, hdone, ?_, hmode'.trans hmode⟩
    · rw [List.map_cons, execAll_cons (i := .evByteClock b) (finish_eq_next.mpr hu), ht]
    · rw [hhistory', hhistory, List.append_assoc]
      rfl

/-- A stream with nothing left was presented up to the end of the body. -/
theorem Sending.finished (h : Sending c f [] s) : s.txState = .body ∧ (frontBuf s).progress = (frontBuf s).size := by
  obtain ⟨-, hsize, -, -, hplace, hleft⟩ := h
  cases ht : s.txState with
  | idle => rw [ht] at hplace; exact hplace.elim
  | training =>
    rw [ht] at hleft
    simp [airLeft, airFrame, txPreamble] at hleft
  | preamble =>
    rw [ht] at hplace hleft
    obtain ⟨hpre, -⟩ : s.preIdx ≤ c.callsign.length ∧ _ := hplace
    simp [airLeft, txPreamble] at hleft
    omega
  | body =>
    rw [ht] at hplace hleft
    have hle : (frontBuf s).progress ≤ (frontBuf s).size := hplace
    have hge : f.length ≤ (frontBuf s).progress := List.drop_eq_nil_iff.mp hleft
    exact ⟨rfl, by omega⟩

theorem airBytes_append (l m : List Event) : airBytes (l ++ m) = airBytes l ++ airBytes m := by
  induction l with
  | nil => rfl
  | cons e l ih => cases e <;> simp [airBytes, ih]

theorem airBytes_airEvents (l : List Byte) : airBytes (airEvents l) = l := by
  induction l with
  | nil => rfl
  | cons x l ih => exact congrArg (x :: ·) ih

/-- Settles O47: the loaded frame has its whole air stream left, and every byte clock presents the next byte of what is left. -/
theorem transmittedFrameIsTheAirStream : Obligations.TransmittedFrameIsTheAirStream := by
  intro s f bytes hclk hpre hstart hprogress hsize hfits hholds hlen
  have hsending : Sending Config.actual f (airFrame Config.actual (frontBuf s).trainingRemaining s.ftype f) s := by
    obtain ⟨ht, hpos⟩ | ⟨ht, hzero⟩ := hstart
    · exact ⟨hclk, hsize, hfits, hholds, by rw [ht]; exact ⟨hpos, hprogress⟩, by rw [ht]; rfl⟩
    · refine ⟨hclk, hsize, hfits, hholds, ?_, ?_⟩
      · rw [ht, hpre]
        exact ⟨Nat.zero_le _, hprogress⟩
      · rw [ht, hpre, hzero]
        rfl
  obtain ⟨t, ht, hdone, hhistory, hmode⟩ := execAll_presents hsending hlen
  obtain ⟨hbody, hsent⟩ := hdone.finished
  exact ⟨t, ht, hhistory, by rw [hhistory, airBytes_append, airBytes_airEvents], hbody, hsent, hmode⟩

end Sys2Proof.Proofs
end

section
/-! PROOFS. A frame is received whole: the callsign bytes before the marker, the marker, the body, and the handover (R118, R120, R251 to R255). -/

namespace Sys2Proof.Proofs

open Sys2Proof.Machine Sys2Proof.Safety

variable {c : Config} {s t u : State} {m : Memory} {k e : Nat} {ft : FrameType} {sofar : List Byte}

/-! ### What a frame in reception leaves alone -/

/-- The byte clock runs for a frame in reception (R249). -/
structure RxClocked (s : State) : Prop where
  clock : s.byteclkEn = true
  tx : s.txState = .idle

/-- The bytes `l` came in; the back buffer, the tolerance and the byte clock are what they were. -/
structure Heard (l : List Byte) (s t : State) : Prop where
  back : BackKept s t
  clocked : RxClocked t
  sync : t.syncActive = s.syncActive
  history : t.history = s.history ++ l.map .rxIn

theorem heard_nil (h : RxClocked s) : Heard [] s s := ⟨⟨rfl, rfl⟩, h, rfl, (List.append_nil _).symm⟩

theorem Heard.trans {l l' : List Byte} (h : Heard l s t) (h' : Heard l' t u) : Heard (l ++ l') s u where
  back := h.back.trans h'.back
  clocked := h'.clocked
  sync := h'.sync.trans h.sync
  history := by rw [h'.history, h.history, List.append_assoc, List.map_append]

theorem evByteClock_of_rx (h : RxClocked s) (b : Byte) : evByteClock c b s = rxByte c b (record (.rxIn b) s) := by
  rw [evByteClock, h.clock, takeEvent_true, byteClockHandler, if_neg (not_not.mpr h.tx)]

/-- A byte that came in and wrote the front buffer. -/
theorem heard_setFront {f : FrameBuffer} (h : RxClocked s) (b : Byte) (hbuf : t.buf = (setFrontBuf f s).buf) (hfront : t.front = s.front)
    (hclk : t.byteclkEn = s.byteclkEn) (htx : t.txState = s.txState) (hsync : t.syncActive = s.syncActive)
    (hhistory : t.history = s.history ++ [.rxIn b]) : Heard [b] s t :=
  ⟨⟨hfront, (backBuf_congr hbuf hfront).trans (backBuf_setFrontBuf f s)⟩, ⟨hclk.trans h.clock, htx.trans h.tx⟩, hsync, hhistory⟩

/-! ### The callsign bytes before the marker (R251, R252) -/

/-- `k` bytes before the marker came in, with `e` errors. -/
structure InPrefix (m : Memory) (k e : Nat) (s : State) : Prop where
  rx : s.rxState = .armed ∨ s.rxState = .preamble
  progress : (frontBuf s).progress = k
  errors : s.rxErr = e
  payload : (frontBuf s).payload = m

theorem rxByte_of_prefix (h : s.rxState = .armed ∨ s.rxState = .preamble) (hlt : (frontBuf s).progress < c.rxPrefixLen) (b : Byte) :
    rxByte c b s = .ok (prefixByte c b s) := by
  obtain hr | hr := h <;> rw [rxByte, hr, if_pos hlt]

theorem rxByte_of_marker (h : s.rxState = .armed ∨ s.rxState = .preamble) (heq : (frontBuf s).progress = c.rxPrefixLen) (b : Byte) :
    rxByte c b s = .ok (markerByte c b s) := by
  obtain hr | hr := h <;> rw [rxByte, hr, if_neg heq.not_lt, if_pos heq]

/-- A byte before the marker that leaves the errors within tolerance is counted. -/
theorem prefixByte_within {b : Byte} (htol : s.rxErr + hd b ((callsignTail c).getD (frontBuf s).progress 0) ≤ 2 * s.syncActive.tol) :
    prefixByte c b s = { setFrontBuf { frontBuf s with progress := (frontBuf s).progress + 1 } s with
      rxErr := s.rxErr + hd b ((callsignTail c).getD (frontBuf s).progress 0), rxState := .preamble } := by
  unfold prefixByte prefixCheck
  simp only
  split
  · rw [if_neg (by simpa using htol)]
  · rfl

theorem evByteClock_prefix (h : RxClocked s) (hp : InPrefix m k e s) (hk : k < c.rxPrefixLen) {b : Byte}
    (htol : e + hd b ((callsignTail c).getD k 0) ≤ 2 * s.syncActive.tol) :
    ∃ t, evByteClock c b s = .ok t ∧ InPrefix m (k + 1) (e + hd b ((callsignTail c).getD k 0)) t ∧ Heard [b] s t := by
  obtain ⟨hrx, rfl, rfl, rfl⟩ := hp
  have hfront := frontBuf_setFrontBuf { frontBuf s with progress := (frontBuf s).progress + 1 } (record (.rxIn b) s)
  have hpayload := congrArg FrameBuffer.payload hfront
  rw [evByteClock_of_rx h, rxByte_of_prefix (s := record (.rxIn b) s) hrx hk, prefixByte_within (s := record (.rxIn b) s) htol]
  exact ⟨_, rfl, ⟨.inr rfl, congrArg FrameBuffer.progress hfront, rfl, hpayload⟩, heard_setFront h b rfl rfl rfl rfl rfl rfl⟩

/-- The bytes before the marker are taken whole where their errors are within tolerance. -/
theorem execAll_prefix {pre : List Byte} (h : RxClocked s) (hp : InPrefix m k e s) (hlen : k + pre.length = Config.actual.rxPrefixLen)
    (htol : e + prefixErrors Config.actual k pre ≤ 2 * s.syncActive.tol) :
    ∃ t, execAll (pre.map .evByteClock) s = .next t ∧ InPrefix m Config.actual.rxPrefixLen (e + prefixErrors Config.actual k pre) t
      ∧ Heard pre s t := by
  induction pre generalizing s k e with
  | nil => exact ⟨s, rfl, hlen ▸ hp, heard_nil h⟩
  | cons b pre ih =>
    rw [prefixErrors, ← Nat.add_assoc] at htol ⊢
    rw [List.length_cons] at hlen
    obtain ⟨u, hu, hpu, hheard⟩ := evByteClock_prefix h hp (c := Config.actual) (by omega) (b := b) (by omega)
    obtain ⟨t, ht, hpt, hheard'⟩ := ih hheard.clocked hpu (by omega) (by rwa [hheard.sync])
    refine ⟨t, ?_, hpt, hheard.trans hheard'⟩
    rw [List.map_cons, execAll_cons (i := .evByteClock b) (finish_eq_next.mpr hu), ht]

/-! ### The marker (R253) -/

/-- The bytes `sofar` of a body of type `ft` are stored. -/
structure InBody (c : Config) (ft : FrameType) (sofar : List Byte) (s : State) : Prop where
  rx : s.rxState = .body
  ftype : s.ftype = ft
  size : (frontBuf s).size = c.frameLen ft
  progress : (frontBuf s).progress = sofar.length
  canonical : Memory.wf (frontBuf s).payload
  holds : Holds (frontBuf s).payload sofar

theorem evByteClock_marker (h : RxClocked s) (hp : InPrefix m c.rxPrefixLen e s) (hm : Memory.wf m) (b : Byte) :
    ∃ t, evByteClock c b s = .ok t ∧ InBody c (classify b) [] t ∧ Heard [b] s t := by
  obtain ⟨hrx, hprogress, rfl, rfl⟩ := hp
  have hfront := frontBuf_setFrontBuf { frontBuf s with size := c.frameLen (classify b), progress := 0 } (record (.rxIn b) s)
  have hpayload := congrArg FrameBuffer.payload hfront
  rw [evByteClock_of_rx h, rxByte_of_marker (s := record (.rxIn b) s) hrx hprogress]
  exact ⟨_, rfl, ⟨rfl, rfl, congrArg FrameBuffer.size hfront, congrArg FrameBuffer.progress hfront, hpayload ▸ hm, nofun⟩,
    heard_setFront h b rfl rfl rfl rfl rfl rfl⟩

/-! ### The body (R254, R255) -/

theorem holds_write {l : List Byte} (hwf : Memory.wf m) (h : Holds m l) (b : Byte) : Holds (Memory.write m l.length b) (l ++ [b]) := by
  intro j hj
  rw [Memory.read_write hwf]
  split
  · next heq => subst heq; simp
  · next hne =>
    have hlt : j < l.length := by simp at hj; omega
    rw [h j hlt, List.getElem?_append_left hlt]

/-- The front buffer with the next body byte stored. -/
theorem InBody.stored (h : InBody c ft sofar s) (b : Byte) :
    (storeByte (frontBuf s) b).progress = (sofar ++ [b]).length ∧ Memory.wf (storeByte (frontBuf s) b).payload
      ∧ Holds (storeByte (frontBuf s) b).payload (sofar ++ [b]) := by
  refine ⟨by simp [storeByte, h.progress], Memory.write_wf h.canonical _ b, ?_⟩
  rw [storeByte, h.progress]
  exact holds_write h.canonical h.holds b

/-- A body byte that is not past the frame's length has its rule. -/
theorem evByteClock_of_body (h : RxClocked s) (hb : InBody c ft sofar s) (hlt : sofar.length < c.frameLen ft) (b : Byte) :
    evByteClock c b s = .ok (if sofar.length + 1 = c.frameLen ft then rxComplete (setFrontBuf (storeByte (frontBuf s) b) (record (.rxIn b) s))
      else setFrontBuf (storeByte (frontBuf s) b) (record (.rxIn b) s)) := by
  have hfits : (frontBuf s).progress < c.maxPayload := by
    rw [hb.progress]
    exact hlt.trans_le (frameLen_bounds c ft).2
  rw [evByteClock_of_rx h, rxByte, record_rxState, hb.rx, ← hb.progress, ← hb.size]
  exact bodyByte_eq (s := record (.rxIn b) s) b hfits

theorem evByteClock_bodyByte (h : RxClocked s) (hb : InBody c ft sofar s) (b : Byte) (hmore : sofar.length + 1 < c.frameLen ft) :
    ∃ t, evByteClock c b s = .ok t ∧ InBody c ft (sofar ++ [b]) t ∧ Heard [b] s t := by
  have hfront : frontBuf (setFrontBuf (storeByte (frontBuf s) b) (record (.rxIn b) s)) = storeByte (frontBuf s) b := frontBuf_setFrontBuf _ _
  obtain ⟨hprogress, hwf, hholds⟩ := hb.stored b
  rw [← hfront] at hprogress hwf hholds
  rw [evByteClock_of_body h hb (by omega), if_neg (by omega)]
  exact ⟨_, rfl, ⟨hb.rx, hb.ftype, (congrArg FrameBuffer.size hfront).trans hb.size, hprogress, hwf, hholds⟩,
    heard_setFront h b rfl rfl rfl rfl rfl rfl⟩

/-- All of a body but its last byte is stored. -/
theorem execAll_body {l : List Byte} (h : RxClocked s) (hb : InBody Config.actual ft sofar s)
    (hlen : sofar.length + l.length < Config.actual.frameLen ft) :
    ∃ t, execAll (l.map .evByteClock) s = .next t ∧ InBody Config.actual ft (sofar ++ l) t ∧ Heard l s t := by
  induction l generalizing s sofar with
  | nil => exact ⟨s, rfl, by rwa [List.append_nil], heard_nil h⟩
  | cons b l ih =>
    rw [List.length_cons] at hlen
    obtain ⟨u, hu, hbu, hheard⟩ := evByteClock_bodyByte h hb b (by omega)
    obtain ⟨t, ht, hbt, hheard'⟩ := ih hheard.clocked hbu (by simp; omega)
    rw [List.append_assoc] at hbt
    refine ⟨t, ?_, hbt, hheard.trans hheard'⟩
    rw [List.map_cons, execAll_cons (i := .evByteClock b) (finish_eq_next.mpr hu), ht]

/-- The frame with body `body` was handed over (R255). -/
structure HandedOver (body : List Byte) (ft : FrameType) (b : Byte) (s t : State) : Prop where
  history : t.history = s.history ++ [.rxIn b, .emit .rxComplete]
  front : t.front = 1 - s.front
  newFront : frontBuf t = backBuf s
  ready : (backBuf t).ready = true
  size : (backBuf t).size = body.length
  holds : Holds (backBuf t).payload body
  ftype : t.ftype = ft
  rx : t.rxState = .idle
  clock : t.byteclkEn = false
  armed : t.syncArmed = true

/-- The front buffer as it is handed over: marked ready (R255). -/
def markReady (f : FrameBuffer) : FrameBuffer := { f with flags := setReady f.flags }

/-- The completion of a frame while the back buffer is free: the two buffers change places (R255). -/
theorem rxComplete_of_free (h : (backBuf s).ready = false) : ∃ t, rxComplete s = t ∧ t.history = s.history ++ [.emit .rxComplete]
    ∧ t.front = 1 - s.front ∧ frontBuf t = backBuf s ∧ backBuf t = markReady (frontBuf s) ∧ t.ftype = s.ftype ∧ t.rxState = .idle
    ∧ t.byteclkEn = false ∧ t.syncArmed = true := by
  rw [rxComplete, if_neg (by simp [h])]
  have hold := (backBuf_swap (setFrontBuf (markReady (frontBuf s)) s)).trans (frontBuf_setFrontBuf _ s)
  exact ⟨_, rfl, rfl, rfl, backBuf_setFrontBuf _ s, hold, rfl, rfl, rfl, rfl⟩

theorem evByteClock_lastByte (h : RxClocked s) (hb : InBody c ft sofar s) (b : Byte) (hlast : sofar.length + 1 = c.frameLen ft)
    (hfree : (backBuf s).ready = false) : ∃ t, evByteClock c b s = .ok t ∧ HandedOver (sofar ++ [b]) ft b s t := by
  obtain ⟨-, -, hholds⟩ := hb.stored b
  have hfront := frontBuf_setFrontBuf (storeByte (frontBuf s) b) (record (.rxIn b) s)
  have hback := backBuf_setFrontBuf (storeByte (frontBuf s) b) (record (.rxIn b) s)
  obtain ⟨t, ht, hhistory, hrole, hnew, hold, hftype, hrx, hclk, harmed⟩ := rxComplete_of_free (hback ▸ hfree)
  rw [hfront] at hold
  rw [evByteClock_of_body h hb (by omega), if_pos hlast, ht]
  exact ⟨t, rfl, {
    history := hhistory.trans (List.append_assoc _ _ _)
    front := hrole
    newFront := hnew.trans hback
    ready := hold ▸ ready_setReady _
    size := by
      rw [hold, List.length_append, List.length_singleton, hlast]
      exact hb.size
    holds := hold ▸ hholds
    ftype := hftype.trans hb.ftype
    rx := hrx
    clock := hclk
    armed := harmed }⟩

/-- Settles O48: the bytes before the marker, the marker and the body each leave the state the next one needs, and the last byte hands the frame over. -/
theorem receivedFrameReachesTheBackBuffer : Obligations.ReceivedFrameReachesTheBackBuffer := by
  intro s pre m body hclk hrx htx herr hprogress hwf hfree hpre htol hlen
  have hbody : body ≠ [] := List.ne_nil_of_length_pos (hlen ▸ (frameLen_bounds Config.actual (classify m)).1)
  obtain ⟨init, last, rfl⟩ := (List.eq_nil_or_concat' body).resolve_left hbody
  rw [List.length_append, List.length_singleton] at hlen
  obtain ⟨s1, h1, hp1, hheard1⟩ := execAll_prefix ⟨hclk, htx⟩ ⟨.inl hrx, hprogress, herr, rfl⟩
    ((Nat.zero_add _).trans hpre) ((Nat.zero_add _).trans_le htol)
  obtain ⟨s2, h2, hb2, hheard2⟩ := evByteClock_marker hheard1.clocked hp1 hwf m
  obtain ⟨s3, h3, hb3, hheard3⟩ := execAll_body hheard2.clocked hb2 (l := init) (by simp; omega)
  have hheard := (hheard1.trans hheard2).trans hheard3
  rw [List.nil_append] at hb3
  obtain ⟨t, h4, k⟩ := evByteClock_lastByte hheard.clocked hb3 last hlen (hheard.back.back ▸ hfree)
  refine ⟨t, ?run, ?history, k.front.trans (by rw [hheard.back.front]), k.newFront.trans hheard.back.back, k.ready, k.size, k.holds, k.ftype, k.rx,
    k.clock, k.armed⟩
  case run =>
    simp only [List.map_append, List.map_cons, List.map_nil, List.append_assoc, List.cons_append, List.nil_append]
    rw [execAll_append h1, execAll_cons (i := .evByteClock m) (finish_eq_next.mpr h2), execAll_append h3,
      execAll_cons (i := .evByteClock last) (finish_eq_next.mpr h4), execAll]
  case history =>
    rw [k.history, hheard.history]
    simp only [List.map_append, List.map_cons, List.map_nil, List.append_assoc, List.cons_append, List.nil_append]

end Sys2Proof.Proofs
end

section
/-! PROOFS. The clock planner: rounding, the search for the divider, the plan it gives and what PLAN_CLOCKS answers (R140 to R157). -/

namespace Sys2Proof.Proofs

open Sys2Proof.Machine Sys2Proof.Safety

variable {c : Config} {xtal k w d : Nat} {rate h : Rat} {r : PlannerResult}

/-! ### Rounding (R140) -/

theorem abs_sub_roundNat_le {x : Rat} (hx : 0 ≤ x) : |x - (roundNat x : Rat)| ≤ 1 / 2 := by
  have hround : (roundNat x : Int) = round x := (roundNat_cast hx).trans (round_eq x).symm
  calc |x - (roundNat x : Rat)| = |x - ((roundNat x : Int) : Rat)| := by rw [Int.cast_natCast]
    _ = |x - (round x : Rat)| := by rw [hround]
    _ ≤ 1 / 2 := abs_sub_round x

theorem demodClk_nonneg (xtal d : Nat) : 0 ≤ demodClk xtal d := by
  unfold demodClk
  positivity

theorem deviationHz_nonneg (xtal dev : Nat) : 0 ≤ deviationHz xtal dev := by
  unfold deviationHz pfd
  positivity

theorem deviationWord_cast (hrate : 0 < rate) (hh : 0 < h) :
    (deviationWord xtal rate h : Int) = (h * (1 / 2) * rate * 65536 / ((xtal : Rat) / 2) + 1 / 2).floor :=
  roundNat_cast (by unfold pfd; positivity)

theorem demodScale_cast {fdev : Rat} (hf : 0 ≤ fdev) : (demodScale fdev : Int) = (100000 / fdev + 1 / 2).floor :=
  roundNat_cast (by positivity)

theorem discBw_cast (xtal k d : Nat) : (discBw xtal k d : Int) = ((k : Rat) * demodClk xtal d / 400000 + 1 / 2).floor :=
  roundNat_cast (div_nonneg (mul_nonneg k.cast_nonneg (demodClk_nonneg xtal d)) (by norm_num))

theorem cdrDivide_arg_nonneg (hrate : 0 < rate) (xtal d : Nat) : 0 ≤ demodClk xtal d / (rate * 32) :=
  div_nonneg (demodClk_nonneg xtal d) (by positivity)

theorem cdrDivide_cast (hrate : 0 < rate) (xtal d : Nat) : (cdrDivide xtal rate d : Int) = (demodClk xtal d / (rate * 32) + 1 / 2).floor :=
  roundNat_cast (cdrDivide_arg_nonneg hrate xtal d)

theorem abs_sub_cdrDivide_le (hrate : 0 < rate) (xtal d : Nat) : |demodClk xtal d / (rate * 32) - cdrDivide xtal rate d| ≤ 1 / 2 :=
  abs_sub_roundNat_le (cdrDivide_arg_nonneg hrate xtal d)

/-! ### The search for the divider (R146 to R148) -/

/-- What the search holds after the dividers `seen`: an accepted one of least error, the lowest of these, or none if each was rejected. -/
def BestOf (xtal : Nat) (rate : Rat) (k : Nat) (seen : List Nat) : Option Nat → Prop
  | none => ∀ d ∈ seen, rejected xtal rate k d = true
  | some w => w ∈ seen ∧ rejected xtal rate k w = false ∧ ∀ d ∈ seen, rejected xtal rate k d = false →
      rateError xtal rate w ≤ rateError xtal rate d ∧ (d < w → rateError xtal rate w < rateError xtal rate d)

theorem BestOf.skip {seen : List Nat} {best : Option Nat} (hb : BestOf xtal rate k seen best) (hd : rejected xtal rate k d = true) :
    BestOf xtal rate k (seen ++ [d]) best := by
  cases best with
  | none => exact List.forall_mem_append.mpr ⟨hb, List.forall_mem_singleton.mpr hd⟩
  | some w =>
    obtain ⟨hw, hacc, hleast⟩ := hb
    exact ⟨List.mem_append_left _ hw, hacc, List.forall_mem_append.mpr ⟨hleast, List.forall_mem_singleton.mpr fun hacc' => by simp [hd] at hacc'⟩⟩

theorem BestOf.first {seen : List Nat} (hb : BestOf xtal rate k seen none) (hd : rejected xtal rate k d = false) :
    BestOf xtal rate k (seen ++ [d]) (some d) := by
  refine ⟨by simp, hd, List.forall_mem_append.mpr ⟨fun e he hacc => ?_, List.forall_mem_singleton.mpr fun _ => ⟨le_rfl, fun h => absurd h (lt_irrefl d)⟩⟩⟩
  rw [hb e he] at hacc
  cases hacc

theorem BestOf.replace {seen : List Nat} (hb : BestOf xtal rate k seen (some w)) (hd : rejected xtal rate k d = false)
    (hlt : rateError xtal rate d < rateError xtal rate w) : BestOf xtal rate k (seen ++ [d]) (some d) := by
  obtain ⟨-, -, hleast⟩ := hb
  refine ⟨by simp, hd, List.forall_mem_append.mpr ⟨fun e he hacc => ?_, List.forall_mem_singleton.mpr fun _ => ⟨le_rfl, fun h => absurd h (lt_irrefl d)⟩⟩⟩
  have hlt' := hlt.trans_le (hleast e he hacc).1
  exact ⟨hlt'.le, fun _ => hlt'⟩

/-- A later divider is higher, so on a tie the earlier one stays the lowest. -/
theorem BestOf.keep {seen : List Nat} (hb : BestOf xtal rate k seen (some w)) (habove : ∀ e ∈ seen, e < d)
    (hle : rateError xtal rate w ≤ rateError xtal rate d) : BestOf xtal rate k (seen ++ [d]) (some w) := by
  obtain ⟨hw, hacc, hleast⟩ := hb
  exact ⟨List.mem_append_left _ hw, hacc,
    List.forall_mem_append.mpr ⟨hleast, List.forall_mem_singleton.mpr fun _ => ⟨hle, fun h => absurd h (habove w hw).not_gt⟩⟩⟩

theorem better_bestOf {seen : List Nat} {best : Option Nat} (hb : BestOf xtal rate k seen best) (habove : ∀ e ∈ seen, e < d) :
    BestOf xtal rate k (seen ++ [d]) (better xtal rate k best d) := by
  unfold better
  split
  next hrej => exact hb.skip hrej
  next hacc =>
    have hd : rejected xtal rate k d = false := Bool.eq_false_iff.mpr hacc
    cases best with
    | none => exact hb.first hd
    | some w =>
      dsimp only
      split
      next hlt => exact hb.replace hd hlt
      next hle => exact hb.keep habove (not_lt.mp hle)

theorem foldl_better_bestOf (l : List Nat) (hl : l.Pairwise (· < ·)) : BestOf xtal rate k l (l.foldl (better xtal rate k) none) := by
  induction l using List.reverseRecOn with
  | nil => exact List.forall_mem_nil _
  | append_singleton l d ih =>
    obtain ⟨hl, -, habove⟩ := List.pairwise_append.mp hl
    rw [List.foldl_append]
    exact better_bestOf (ih hl) fun e he => habove e he d (List.mem_singleton_self d)

theorem searchDivider_bestOf (xtal : Nat) (rate : Rat) (k : Nat) : BestOf xtal rate k candidateDividers (searchDivider xtal rate k) :=
  foldl_better_bestOf candidateDividers (by decide)

theorem searchDivider_eq_none : searchDivider xtal rate k = none ↔ ∀ d ∈ candidateDividers, rejected xtal rate k d = true := by
  refine ⟨fun hs => ?_, fun hall => ?_⟩
  · have hb := searchDivider_bestOf xtal rate k
    rwa [hs] at hb
  · refine Option.eq_none_iff_forall_ne_some.mpr fun w hs => ?_
    obtain ⟨hw, hacc⟩ := searchDivider_some hs
    rw [hall w hw] at hacc
    cases hacc

/-- A candidate (R146) that is not rejected (R147). -/
def Accepted (xtal : Nat) (rate : Rat) (k d : Nat) : Prop := d ∈ candidateDividers ∧ rejected xtal rate k d = false

theorem accepted_iff : Accepted xtal rate k d ↔ 1 ≤ d ∧ d ≤ 14 ∧ discBw xtal k d ≤ 660 ∧ cdrDivide xtal rate d ≤ 255 ∧ cdrDivide xtal rate d ≠ 0 := by
  rw [Accepted, mem_candidateDividers, not_rejected, and_assoc]

theorem searchDivider_least (hs : searchDivider xtal rate k = some w) (hd : Accepted xtal rate k d) :
    rateError xtal rate w ≤ rateError xtal rate d ∧ (d < w → rateError xtal rate w < rateError xtal rate d) := by
  have hb := searchDivider_bestOf xtal rate k
  rw [hs] at hb
  obtain ⟨-, -, hleast⟩ := hb
  exact hleast d hd.1 hd.2

theorem searchDivider_eq_none_iff_not_accepted : searchDivider xtal rate k = none ↔ ∀ d, ¬ Accepted xtal rate k d := by
  simp [searchDivider_eq_none, Accepted]

/-! ### The plan (R142 to R153) -/

/-- The demodulator scaling constant of the two operands and the crystal (R143 to R145). -/
def planScale (xtal : Nat) (rate h : Rat) : Nat := demodScale (deviationHz xtal (deviationWord xtal rate h))

theorem planClocks_eq_none : planClocks c xtal rate h = none ↔ deviationWord xtal rate h = 0 ∨ searchDivider xtal rate (planScale xtal rate h) = none := by
  unfold planClocks planScale
  dsimp only
  split
  next h0 => simp [h0]
  next h0 =>
    cases searchDivider xtal rate (demodScale (deviationHz xtal (deviationWord xtal rate h))) with
    | none => simp
    | some w => simp [h0]

theorem planClocks_parity (hp : planClocks c xtal rate h = some r) :
    (r.rxInvert, r.dotProduct) = c.kparity (r.k % 2 == 1) ((r.k + 1) / 2 % 2 == 1) := by
  unfold planClocks at hp
  dsimp only at hp
  split at hp
  · cases hp
  · split at hp
    · cases hp
    · cases hp
      rfl

theorem planClocks_accepted (hp : planClocks c xtal rate h = some r) : Accepted xtal rate r.k r.demClkDivide := by
  obtain ⟨-, -, -, -, hs, -⟩ := planClocks_some hp
  exact searchDivider_some hs

/-- R147 and R148 for the plan's own numbers. -/
theorem planClocks_divider_inRange (hp : planClocks c xtal rate h = some r) :
    1 ≤ r.demClkDivide ∧ r.demClkDivide ≤ 14 ∧ r.discBw ≤ 660 ∧ r.cdrClkDivide ≤ 255 ∧ r.cdrClkDivide ≠ 0 := by
  obtain ⟨-, -, -, -, -, hcdr, hdisc, -⟩ := planClocks_some hp
  rw [hcdr, hdisc]
  exact accepted_iff.mp (planClocks_accepted hp)

/-- Settles O16: the search keeps the lowest of the accepted dividers of least error, and every number is the model's formula read in the integers. -/
theorem plannerPicksTheBestDivider : Obligations.PlannerPicksTheBestDivider := by
  intro xtal rate h hxtal hrate hh dev fdev k clk disc cdr real accepted
  have hdev : (deviationWord xtal rate h : Int) = dev := deviationWord_cast hrate hh
  have hfdev : deviationHz xtal (deviationWord xtal rate h) = fdev := by
    simp only [fdev, ← hdev, Int.cast_natCast, deviationHz, pfd]
  have hk : (planScale xtal rate h : Int) = k := by
    simp only [k, ← hfdev]
    exact demodScale_cast (deviationHz_nonneg _ _)
  have hdisc (d : Nat) : (discBw xtal (planScale xtal rate h) d : Int) = disc d := by
    simp only [disc, ← hk, Int.cast_natCast]
    exact discBw_cast _ _ _
  have hcdr (d : Nat) : (cdrDivide xtal rate d : Int) = cdr d := cdrDivide_cast hrate xtal d
  have hreal (d : Nat) : realRate xtal rate d = real d := by
    simp only [real, ← hcdr, Int.cast_natCast]
    rfl
  have hacc (d : Nat) : Accepted xtal rate (planScale xtal rate h) d ↔ accepted d := by
    simp only [accepted_iff, accepted, ← hdisc, ← hcdr]
    omega
  refine ⟨fun r hp => ?plan, ?noPlan⟩
  case plan =>
    obtain ⟨hrdev, -, hrfdev, hrk, hs, hrcdr, hrdisc, hrreal, hrpost, hrindex⟩ := planClocks_some hp
    rw [hrdev] at hrfdev
    have hrscale : r.k = planScale xtal rate h := by rw [hrk, hrfdev, planScale]
    rw [hrscale] at hs
    simp only [← hacc, ← hreal, ← hdev, ← hfdev, ← hk, ← hdisc, ← hcdr]
    exact ⟨searchDivider_some hs, fun d hd => (searchDivider_least hs hd).1, fun d hd => (searchDivider_least hs hd).2,
      by rw [hrdev], hrfdev, by rw [hrscale], by rw [hrdisc, hrscale], by rw [hrcdr], hrreal, by rw [hrindex, hrreal, hrfdev], hrpost,
      planClocks_parity hp⟩
  case noPlan =>
    rw [planClocks_eq_none, searchDivider_eq_none_iff_not_accepted, ← hdev, Int.natCast_eq_zero]
    simp only [hacc]

/-- Settles O18: cdr is R's own quotient to the nearest, so the real rate is off by at most half of R's share of one. -/
theorem plannerRateIsAccurate : Obligations.PlannerRateIsAccurate := by
  refine ⟨fun xtal rate h r hrate hp => ?bound, ?sixteenMHz⟩
  case bound =>
    obtain ⟨-, -, -, -, -, hcdr, -, hreal, -⟩ := planClocks_some hp
    obtain ⟨-, -, -, -, hne⟩ := planClocks_divider_inRange hp
    have hround := abs_sub_cdrDivide_le hrate xtal r.demClkDivide
    rw [← hcdr] at hround
    have hpos : (0 : Rat) < r.cdrClkDivide := Nat.cast_pos.mpr (Nat.pos_of_ne_zero hne)
    have hscaled : r.realDataRate - rate = rate / r.cdrClkDivide * (demodClk xtal r.demClkDivide / (rate * 32) - r.cdrClkDivide) := by
      rw [hreal, realRate, ← hcdr]
      field_simp
    calc |r.realDataRate - rate| = rate / r.cdrClkDivide * |demodClk xtal r.demClkDivide / (rate * 32) - r.cdrClkDivide| := by
          rw [hscaled, abs_mul, abs_of_pos (div_pos hrate hpos)]
      _ ≤ rate / r.cdrClkDivide * (1 / 2) := mul_le_mul_of_nonneg_left hround (div_pos hrate hpos).le
      _ = rate / (2 * r.cdrClkDivide) := by field_simp
  case sixteenMHz =>
    have hplan : (planClocks Config.actual 16000000 2400 8).map (fun r => (r.cdrClkDivide, r.realDataRate)) = some (208, 31250 / 13) := by decide +kernel
    obtain ⟨r, hp, hr⟩ := Option.map_eq_some_iff.mp hplan
    obtain ⟨hcdr, hreal⟩ := Prod.mk.inj hr
    exact ⟨r, hp, hcdr, hreal, by rw [hreal]; norm_num [abs_of_pos]⟩

/-! ### The post-demodulation bandwidth (R141, R150) -/

/-- `v` is the integer nearest to 48 / cdr · π: since 301 < 96 · π < 302, an odd number times cdr is below 96 · π exactly where it is at most 301. -/
def RoundsPi (cdr v : Nat) : Prop := (2 * v - 1) * cdr ≤ 301 ∧ 301 < (2 * v + 1) * cdr

/-- `RoundsPi` at the ends of each row's range, for a threshold table that begins at `lo` and reaches 255. -/
def rowsRoundPi : Nat → List (Nat × Nat) → Bool
  | lo, [] => decide (255 < lo)
  | lo, (hi, v) :: rest => decide ((2 * v - 1) * hi ≤ 301 ∧ 301 < (2 * v + 1) * lo) && rowsRoundPi (hi + 1) rest

theorem lookupUpTo_roundsPi {cdr : Nat} (hcdr : cdr ≤ 255) (rows : List (Nat × Nat)) :
    ∀ lo ≤ cdr, rowsRoundPi lo rows = true → RoundsPi cdr (lookupUpTo rows cdr) := by
  induction rows with
  | nil =>
    intro lo hlo hrows
    exact absurd (of_decide_eq_true hrows) (by omega)
  | cons row rest ih =>
    obtain ⟨hi, v⟩ := row
    intro lo hlo hrows
    obtain ⟨hrow, hrest⟩ := Bool.and_eq_true_iff.mp hrows
    obtain ⟨hbelow, habove⟩ := of_decide_eq_true hrow
    unfold lookupUpTo
    split
    next hle => exact ⟨(Nat.mul_le_mul_left _ hle).trans hbelow, habove.trans_le (Nat.mul_le_mul_left _ hlo)⟩
    next hgt => exact ih _ (by omega) hrest

theorem postDemodBw_roundsPi {cdr : Nat} (hpos : 1 ≤ cdr) (hcdr : cdr ≤ 255) : RoundsPi cdr (postDemodBw cdr) :=
  lookupUpTo_roundsPi hcdr postDemodTable 1 hpos (by decide)

theorem RoundsPi.one_le {cdr v : Nat} (hv : RoundsPi cdr v) (hcdr : cdr ≤ 255) : 1 ≤ v := by
  obtain ⟨-, habove⟩ := hv
  refine Nat.one_le_iff_ne_zero.mpr ?_
  rintro rfl
  omega

theorem RoundsPi.le_max {cdr v : Nat} (hv : RoundsPi cdr v) (hpos : 1 ≤ cdr) : v ≤ 151 := by
  have := (Nat.le_mul_of_pos_right (2 * v - 1) hpos).trans hv.1
  omega

theorem RoundsPi.floor_eq {cdr v : Nat} {x : Real} (hv : RoundsPi cdr v) (hpos : 1 ≤ cdr) (hcdr : cdr ≤ 255) (hlo : 301 < 96 * x) (hhi : 96 * x < 302) :
    ⌊48 / (cdr : Real) * x + 1 / 2⌋ = v := by
  obtain ⟨hbelow, habove⟩ := hv
  have hcast : (0 : Real) < 2 * cdr := by positivity
  have hquot : 48 / (cdr : Real) * x = 96 * x / (2 * cdr) := by
    field_simp
    ring
  have hbelow' : (2 * (v : Real) - 1) * cdr ≤ 301 := by
    have h1 : 1 ≤ 2 * v := by linarith [RoundsPi.one_le ⟨hbelow, habove⟩ hcdr]
    have := (Nat.cast_le (α := Real)).mpr hbelow
    push_cast [Nat.cast_sub h1] at this
    exact this
  have habove' : (302 : Real) ≤ (2 * v + 1) * cdr := by exact_mod_cast habove
  have hge : (v : Real) - 1 / 2 ≤ 96 * x / (2 * cdr) := (le_div_iff₀ hcast).mpr (by linarith)
  have hlt : 96 * x / (2 * cdr) < (v : Real) + 1 / 2 := (div_lt_iff₀ hcast).mpr (by linarith)
  rw [hquot, Int.floor_eq_iff, Int.cast_natCast]
  constructor <;> linarith

/-- Settles O19: any number within 10⁻⁵ of π lies between 301/96 and 302/96, where every row of the table is the nearest integer. -/
theorem postDemodTableRoundsPi : Obligations.PostDemodTableRoundsPi := by
  intro cdr x hpos hcdr hx
  obtain ⟨hxlo, hxhi⟩ := abs_lt.mp hx
  have hlo : 301 < 96 * x := by linarith [Real.pi_gt_d4]
  have hhi : 96 * x < 302 := by linarith [Real.pi_lt_d4]
  exact ((postDemodBw_roundsPi hpos hcdr).floor_eq hpos hcdr hlo hhi).symm

/-- Settles O17: the divider was accepted, and the table keeps its bounds wherever an accepted cdr reaches. -/
theorem plannerStaysInRange : Obligations.PlannerStaysInRange := by
  intro xtal rate h r hp
  obtain ⟨hdem, hdem', hdisc, hcdr, hne⟩ := planClocks_divider_inRange hp
  obtain ⟨-, -, -, -, -, -, -, -, hpost, -⟩ := planClocks_some hp
  have hpos : 1 ≤ r.cdrClkDivide := Nat.one_le_iff_ne_zero.mpr hne
  have hround := postDemodBw_roundsPi hpos hcdr
  rw [hpost]
  exact ⟨hdem, hdem', hdisc, hpos, hcdr, hround.one_le hcdr, hround.le_max hpos⟩

/-! ### PLAN_CLOCKS (R109, R154) -/

theorem ratMalformed_eq (q : RatArg) : ratMalformed q = !q.wellFormed := (Bool.not_not _).symm

section PlanClocks
variable {x : Word} {p q : RatArg} {s : State}

theorem exec_planClocks_of_malformed (hbad : p.wellFormed = false ∨ q.wellFormed = false) :
    exec (.planClocks x p q) s = .next (answerInvalid s) := by
  refine finish_eq_next.mpr (if_pos ?_)
  simpa [ratMalformed_eq] using hbad

theorem planClocksCommand_of_wellFormed (hp : p.wellFormed = true) (hq : q.wellFormed = true) :
    planClocksCommand c x p q s = if 0 < x.toNat ∧ 0 < ratValue p ∧ 0 < ratValue q then
      .ok ((planClocks c x.toNat (ratValue p) (ratValue q)).elim (answer .planFail none s) fun r => answer .ok (some (.plan r)) s)
    else .error .range := by
  unfold planClocksCommand
  rw [if_neg (by simp [ratMalformed_eq, hp, hq])]
  cases planClocks c x.toNat (ratValue p) (ratValue q) with
  | none => rfl
  | some r => rfl

end PlanClocks

/-- Settles O15: well-formedness, then the signs, then the planner decide what PLAN_CLOCKS answers. -/
theorem planClocksAnswersThePlan : Obligations.PlanClocksAnswersThePlan := by
  intro xtal rate h s
  refine ⟨fun hq hh hx hrate hindex => ?answered, fun hq hh hbad => ?outOfRange, exec_planClocks_of_malformed⟩
  case answered =>
    have hpos : 0 < xtal.toNat ∧ 0 < ratValue rate ∧ 0 < ratValue h := ⟨Nat.pos_of_ne_zero fun h0 => hx (BitVec.eq_of_toNat_eq h0), hrate, hindex⟩
    have hcommand := (planClocksCommand_of_wellFormed (c := Config.actual) (x := xtal) (s := s) hq hh).trans (if_pos hpos)
    cases hplan : planClocks Config.actual xtal.toNat (ratValue rate) (ratValue h) with
    | none =>
      rw [hplan] at hcommand
      exact finish_eq_next.mpr hcommand
    | some r =>
      rw [hplan] at hcommand
      exact finish_eq_next.mpr hcommand
  case outOfRange =>
    refine finish_eq_fault.mpr ((planClocksCommand_of_wellFormed hq hh).trans (if_neg ?_))
    rintro ⟨hx, hrate, hindex⟩
    obtain rfl | hle | hle := hbad
    · exact absurd hx (lt_irrefl 0)
    · exact absurd hrate hle.not_gt
    · exact absurd hindex hle.not_gt

end Sys2Proof.Proofs
end

section
/-! PROOFS. POWER_ON and POWER_OFF in every state (R171, R172, R351). -/

namespace Sys2Proof.Proofs

open Sys2Proof.Machine Sys2Proof.Safety

variable {c : Config} {s : State} {xtal : Word}

theorem toNat_ne_zero {x : Word} (h : x ≠ 0#32) : x.toNat ≠ 0 := fun h0 => h (BitVec.eq_of_toNat_eq h0)

theorem not_betweenFrames_iff : ¬ betweenFrames s = true ↔ midFrame s := by
  rw [← not_midFrame_iff, not_not]

/-! ### POWER_ON (R171) -/

theorem powerOnCommand_of_betweenFrames (hx : xtal ≠ 0#32) (hb : betweenFrames s = true) (c : Config) :
    powerOnCommand c xtal s = .ok { s with
      xtalHz := xtal.toNat, ce := true, sys := sysAfter s.sys (c.powerOnSeq xtal.toNat).toList, trsw := false, syncArmed := false
      byteclkEn := false, paWarm := false, mode := .idle, reply := some ⟨.ok, none⟩
      history := s.history ++ [.setCe true] ++ stagedEvents (c.powerOnSeq xtal.toNat).toList ++ (if s.trsw then [.setTr false] else []) } := by
  rw [powerOnCommand, if_neg (toNat_ne_zero hx), if_neg (not_not.mpr hb)]
  simp only [writeSys_eq, releaseTr_eq]
  rfl

theorem powerOnCommand_of_zero (c : Config) (s : State) : powerOnCommand c 0#32 s = .error .range := if_pos rfl

theorem powerOnCommand_of_midFrame (hx : xtal ≠ 0#32) (hm : midFrame s) (c : Config) : powerOnCommand c xtal s = .error .modeMidFrame := by
  rw [powerOnCommand, if_neg (toNat_ne_zero hx), if_pos (not_betweenFrames_iff.mpr hm)]

/-- Settles O24: the operand is tested before the frame in progress; past both, the bring-up is a list of register writes between two output changes. -/
theorem powerOnBringsTheChipUp : Obligations.PowerOnBringsTheChipUp := by
  intro xtal s
  refine ⟨fun hx hframe => ?up, ?zero, fun hx hframe => ?midFrame⟩
  case up => exact finish_eq_next.mpr (powerOnCommand_of_betweenFrames hx (not_midFrame_iff.mp hframe) _)
  case zero => rintro rfl; exact finish_eq_fault.mpr (powerOnCommand_of_zero Config.actual s)
  case midFrame => exact finish_eq_fault.mpr (powerOnCommand_of_midFrame hx hframe _)

/-! ### POWER_OFF (R172) -/

/-- The counters of an abandoned frame are the one thing that depends on whether there was one. -/
theorem abandonFrame_eq (s : State) : abandonFrame s = { s with
    buf := if midFrame s then s.buf.set s.front { frontBuf s with progress := 0, size := 0, trainingRemaining := 0 } else s.buf } := by
  unfold abandonFrame
  by_cases hm : midFrame s
  · rw [if_neg (not_betweenFrames_iff.mpr hm), if_pos hm]
    rfl
  · rw [if_pos (not_midFrame_iff.mp hm), if_neg hm]

theorem powerOffCommand_of_off (hoff : s.mode = .off) : powerOffCommand s = .ok (answer .ok none s) := if_pos hoff

theorem powerOffCommand_of_on (hon : s.mode ≠ .off) : powerOffCommand s = .ok { s with
    buf := if midFrame s then s.buf.set s.front { frontBuf s with progress := 0, size := 0, trainingRemaining := 0 } else s.buf
    rxState := .idle, txState := .idle, rxErr := 0, preIdx := 0, syncArmed := false, byteclkEn := false, trsw := false, ce := false
    paWarm := false, mode := .off, reply := some ⟨.ok, none⟩
    history := s.history ++ (if s.trsw then [.setTr false] else []) ++ [.setCe false] } := by
  rw [powerOffCommand, if_neg hon, abandonFrame_eq]
  simp only [releaseTr_eq]
  rfl

/-- Settles O25: the chip enable falls last, so the history ends with the loss of every register. -/
theorem powerOffCompletesInEveryState : Obligations.PowerOffCompletesInEveryState := by
  intro s
  have hon := fun h => finish_eq_next.mpr (powerOffCommand_of_on (s := s) h)
  exact ⟨fun h => finish_eq_next.mpr (powerOffCommand_of_off h), hon, fun h => ⟨_, hon h, fun a => chipRegister_powerOff a _⟩⟩

end Sys2Proof.Proofs
end

section
/-! PROOFS. CONFIGURE_RX and CONFIGURE_TX: the plan and the staged sequence, or the earlier ones (R109, R174 to R176). -/

namespace Sys2Proof.Proofs

open Sys2Proof.Machine Sys2Proof.Safety

variable {c : Config} {s : State} {rate h : Rat} {freq ifbw : Nat} {r : PlannerResult}

/-! ### `configure` (R174) -/

/-- What `configure` asks of its inputs before it plans (R142, R174). -/
structure PositiveInputs (x : Nat) (rate h : Rat) (freq : Nat) : Prop where
  xtal : 0 < x
  rate : 0 < rate
  modIndex : 0 < h
  freq : 0 < freq

theorem configurePlan_of_positive (hp : PositiveInputs s.xtalHz rate h freq) (c : Config) (d : Dir) :
    configurePlan c d rate h freq s = .ok ((planClocks c s.xtalHz rate h).map (channelPlan c s.xtalHz d rate h freq)) := by
  rw [configurePlan, if_pos ⟨hp.xtal, hp.rate, hp.modIndex, hp.freq⟩]
  cases planClocks c s.xtalHz rate h <;> rfl

theorem configurePlan_of_not_positive (hbad : rate ≤ 0 ∨ h ≤ 0 ∨ freq = 0) (c : Config) (d : Dir) (s : State) :
    configurePlan c d rate h freq s = .error .range := by
  refine if_neg ?_
  rintro ⟨-, hrate, hmod, hfreq⟩
  obtain hbad | hbad | hbad := hbad
  · exact hbad.not_gt hrate
  · exact hbad.not_gt hmod
  · exact hfreq.ne' hbad

/-! ### The RX direction (R175) -/

/-- The RX plan: the record of R174 with the IF bandwidth class masked (R175). -/
def rxPlan (c : Config) (x : Nat) (rate h : Rat) (freq ifbw : Nat) (r : PlannerResult) : ChannelPlan :=
  { channelPlan c x .rx rate h freq r with derived := { (channelPlan c x .rx rate h freq r).derived with ifBwClass := maskIfbw c ifbw } }

/-- The RX image with the whole sequence of a plan staged (R175). -/
def rxStage (c : Config) (plan : ChannelPlan) (m : Image) : Image := stageAll (c.packRx plan plan.derived.ifBwClass) c.rxSeq m

theorem imageAt_rxStage (c : Config) (plan : ChannelPlan) (m : Image) (a : RegAddr) : imageAt (rxStage c plan m) a =
    if a ∈ c.rxSeq then some (staged a (c.packRx plan plan.derived.ifBwClass a)) else imageAt m a := imageAt_stageAll _ _ m a

theorem configureRx_of_plan (hp : PositiveInputs s.xtalHz rate h freq) (hr : planClocks c s.xtalHz rate h = some r) (ifbw : Nat) :
    configureRx c rate h freq ifbw s = .ok (true, { s with
      planRx := some (rxPlan c s.xtalHz rate h freq ifbw r), planErrorRx := false
      stageRx := rxStage c (rxPlan c s.xtalHz rate h freq ifbw r) s.stageRx }) := by
  rw [configureRx, configurePlan_of_positive hp, hr]
  rfl

theorem configureRx_of_fail (hp : PositiveInputs s.xtalHz rate h freq) (hr : planClocks c s.xtalHz rate h = none) (ifbw : Nat) :
    configureRx c rate h freq ifbw s = .ok (false, { s with planErrorRx := true, history := s.history ++ [.emit .planFail] }) := by
  rw [configureRx, configurePlan_of_positive hp, hr]
  rfl

theorem configureRx_of_not_positive (hbad : rate ≤ 0 ∨ h ≤ 0 ∨ freq = 0) (c : Config) (ifbw : Nat) (s : State) :
    configureRx c rate h freq ifbw s = .error .range := by
  rw [configureRx, configurePlan_of_not_positive hbad]

/-! ### The TX direction (R176) -/

/-- The TX image with the whole sequence of a plan and the PA staged (R176). -/
def txStage (c : Config) (plan : ChannelPlan) (pa : Nat) (m : Image) : Image :=
  imageSet (stageAll (c.packTx plan) c.txSeq m) c.regPa (staged c.regPa (c.packPa pa))

theorem imageAt_txStage (c : Config) (plan : ChannelPlan) (pa : Nat) (m : Image) (a : RegAddr) : imageAt (txStage c plan pa m) a =
    if a = c.regPa then some (staged a (c.packPa pa)) else if a ∈ c.txSeq then some (staged a (c.packTx plan a)) else imageAt m a := by
  rw [txStage, imageAt_imageSet, imageAt_stageAll]
  by_cases ha : a = c.regPa
  · rw [if_pos ha, if_pos ha, ha]
  · rw [if_neg ha, if_neg ha]

theorem configureTx_of_plan (hp : PositiveInputs s.xtalHz rate h freq) (hr : planClocks c s.xtalHz rate h = some r) :
    configureTx c rate h freq s = .ok (true, { s with
      planTx := some (channelPlan c s.xtalHz .tx rate h freq r), planErrorTx := false, paWarm := false
      stageTx := txStage c (channelPlan c s.xtalHz .tx rate h freq r) s.cfg.paPower s.stageTx }) := by
  rw [configureTx, configurePlan_of_positive hp, hr]
  rfl

theorem configureTx_of_fail (hp : PositiveInputs s.xtalHz rate h freq) (hr : planClocks c s.xtalHz rate h = none) :
    configureTx c rate h freq s = .ok (false, { s with planErrorTx := true, history := s.history ++ [.emit .planFail] }) := by
  rw [configureTx, configurePlan_of_positive hp, hr]
  rfl

theorem configureTx_of_not_positive (hbad : rate ≤ 0 ∨ h ≤ 0 ∨ freq = 0) (c : Config) (s : State) :
    configureTx c rate h freq s = .error .range := by
  rw [configureTx, configurePlan_of_not_positive hbad]

/-! ### The two commands (R109, R175, R176) -/

section Commands

variable {p q : RatArg} {f : Word} {b : Byte}

/-- A configuration as a command: its status says whether it planned. -/
def answerPlan (x : Bool × State) : State := answer (planStatus x.1) none x.2

theorem ratMalformed_of_wellFormed (hp : p.wellFormed = true) (hq : q.wellFormed = true) : ¬ (ratMalformed p || ratMalformed q) = true := by
  simp [ratMalformed_eq, hp, hq]

theorem ratMalformed_of_not_wellFormed (hbad : p.wellFormed = false ∨ q.wellFormed = false) : (ratMalformed p || ratMalformed q) = true := by
  simpa [ratMalformed_eq] using hbad

theorem configureRxCommand_of_wellFormed (hp : p.wellFormed = true) (hq : q.wellFormed = true) :
    configureRxCommand c p q f b s = (configureRx c (ratValue p) (ratValue q) f.toNat b.toNat s).map answerPlan := by
  rw [configureRxCommand, if_neg (ratMalformed_of_wellFormed hp hq)]
  cases configureRx c (ratValue p) (ratValue q) f.toNat b.toNat s <;> rfl

theorem configureTxCommand_of_wellFormed (hp : p.wellFormed = true) (hq : q.wellFormed = true) :
    configureTxCommand c p q f s = (configureTx c (ratValue p) (ratValue q) f.toNat s).map answerPlan := by
  rw [configureTxCommand, if_neg (ratMalformed_of_wellFormed hp hq)]
  cases configureTx c (ratValue p) (ratValue q) f.toNat s <;> rfl

/-- The operands of a command that are not positive, as `configure` sees them. -/
theorem not_positive_operands (hbad : ratValue p ≤ 0 ∨ ratValue q ≤ 0 ∨ f = 0#32) : ratValue p ≤ 0 ∨ ratValue q ≤ 0 ∨ f.toNat = 0 :=
  hbad.imp_right (Or.imp_right fun hf => by rw [hf]; rfl)

end Commands

/-- Settles O26: well-formedness, then the signs, then the planner decide what CONFIGURE_RX does. -/
theorem configureRxStagesThePlan : Obligations.ConfigureRxStagesThePlan := by
  intro rate h freq ifbw s
  refine ⟨fun hq hh hx hrate hmod hfreq => ?planned, fun hq hh hbad => ?outOfRange, fun hbad => ?malformed⟩
  case planned =>
    have hpos : PositiveInputs s.xtalHz (ratValue rate) (ratValue h) freq.toNat := ⟨hx, hrate, hmod, Nat.pos_of_ne_zero (toNat_ne_zero hfreq)⟩
    split
    · next hr => exact finish_eq_next.mpr (by rw [configureRxCommand_of_wellFormed hq hh, configureRx_of_fail hpos hr]; rfl)
    · next r hr =>
      refine ⟨_, _, finish_eq_next.mpr ?_, rfl, imageAt_rxStage _ _ _⟩
      rw [configureRxCommand_of_wellFormed hq hh, configureRx_of_plan hpos hr]
      rfl
  case outOfRange =>
    refine finish_eq_fault.mpr ?_
    rw [configureRxCommand_of_wellFormed hq hh, configureRx_of_not_positive (not_positive_operands hbad)]
    rfl
  case malformed => exact finish_eq_next.mpr (if_pos (ratMalformed_of_not_wellFormed hbad))

/-- Settles O27, as CONFIGURE_RX; the PA is staged after the sequence, at an address of its own. -/
theorem configureTxStagesThePlanAndThePa : Obligations.ConfigureTxStagesThePlanAndThePa := by
  intro rate h freq s
  refine ⟨fun hq hh hx hrate hmod hfreq => ?planned, fun hq hh hbad => ?outOfRange, fun hbad => ?malformed⟩
  case planned =>
    have hpos : PositiveInputs s.xtalHz (ratValue rate) (ratValue h) freq.toNat := ⟨hx, hrate, hmod, Nat.pos_of_ne_zero (toNat_ne_zero hfreq)⟩
    split
    · next hr => exact finish_eq_next.mpr (by rw [configureTxCommand_of_wellFormed hq hh, configureTx_of_fail hpos hr]; rfl)
    · next r hr =>
      refine ⟨_, _, finish_eq_next.mpr ?_, rfl, imageAt_txStage _ _ _ _⟩
      rw [configureTxCommand_of_wellFormed hq hh, configureTx_of_plan hpos hr]
      rfl
  case outOfRange =>
    refine finish_eq_fault.mpr ?_
    rw [configureTxCommand_of_wellFormed hq hh, configureTx_of_not_positive (not_positive_operands hbad)]
    rfl
  case malformed => exact finish_eq_next.mpr (if_pos (ratMalformed_of_not_wellFormed hbad))

end Sys2Proof.Proofs
end

section
/-! PROOFS. SET_RX_MODE and SET_TX_MODE (R177 to R179, R335), and what the chip's registers hold after a switch to RX (R23, R385). -/

namespace Sys2Proof.Proofs

open Sys2Proof.Machine Sys2Proof.Safety

variable {c : Config} {s t : State}

theorem thenOk_of_ok {r : Except Fault State} (h : r = .ok t) : thenOk r = .ok (answer .ok none t) := by
  rw [h]; rfl

theorem thenOk_of_error {r : Except Fault State} {f : Fault} (h : r = .error f) : thenOk r = .error f := by
  rw [h]; rfl

/-! ### The preconditions in the order of R335 -/

theorem setRxMode_of_off (hoff : s.mode = .off) (c : Config) : setRxMode c s = .error .busOff := if_pos (not_busOk_iff.mpr hoff)

theorem setRxMode_of_noPlan (hon : s.mode ≠ .off) (hplan : s.planRx = none) (c : Config) : setRxMode c s = .error .noPlan := by
  rw [setRxMode, if_neg (not_not.mpr (busOk_iff.mpr hon)), if_pos hplan]

theorem setRxMode_of_midFrame (hon : s.mode ≠ .off) (hplan : s.planRx ≠ none) (hm : midFrame s) (c : Config) :
    setRxMode c s = .error .modeMidFrame := by
  rw [setRxMode, if_neg (not_not.mpr (busOk_iff.mpr hon)), if_neg hplan, if_pos (not_betweenFrames_iff.mpr hm)]

theorem setTxMode_of_off (hoff : s.mode = .off) (c : Config) : setTxMode c s = .error .busOff := if_pos (not_busOk_iff.mpr hoff)

theorem setTxMode_of_noPlan (hon : s.mode ≠ .off) (hplan : s.planTx = none) (c : Config) : setTxMode c s = .error .noPlan := by
  rw [setTxMode, if_neg (not_not.mpr (busOk_iff.mpr hon)), if_pos hplan]

theorem setTxMode_of_midFrame (hon : s.mode ≠ .off) (hplan : s.planTx ≠ none) (hm : midFrame s) (c : Config) :
    setTxMode c s = .error .modeMidFrame := by
  rw [setTxMode, if_neg (not_not.mpr (busOk_iff.mpr hon)), if_neg hplan, if_pos (not_betweenFrames_iff.mpr hm)]

theorem setTxMode_of_ready (hon : s.mode ≠ .off) (hplan : s.planTx ≠ none) (hb : betweenFrames s = true) (c : Config) :
    setTxMode c s = txModeSwitch c s := by
  rw [setTxMode, if_neg (not_not.mpr (busOk_iff.mpr hon)), if_neg hplan, if_neg (not_not.mpr hb)]

/-- Settles O28: past its three preconditions SET_TX_MODE is the TX switch. -/
theorem setTxModeSwitches : Obligations.SetTxModeSwitches := by
  intro s
  refine ⟨fun hon hplan hframe hstaged => ?switch, fun hoff => ?off, fun hon hplan => ?noPlan, fun hon hplan hm => ?midFrame⟩
  case switch =>
    have hseq : Staged s.stageTx Config.actual.txSeq := fun a ha => hstaged a (List.mem_cons_of_mem _ ha)
    have hpa : imageAt s.stageTx Config.actual.regPa ≠ none := hstaged _ List.mem_cons_self
    have hswitch := (setTxMode_of_ready hon hplan (not_midFrame_iff.mp hframe) _).trans (txModeSwitch_eq hseq hpa)
    exact finish_eq_next.mpr (thenOk_of_ok hswitch)
  case off => exact finish_eq_fault.mpr (thenOk_of_error (setTxMode_of_off hoff _))
  case noPlan => exact finish_eq_fault.mpr (thenOk_of_error (setTxMode_of_noPlan hon hplan _))
  case midFrame => exact finish_eq_fault.mpr (thenOk_of_error (setTxMode_of_midFrame hon hplan hm _))

/-! ### The chip's registers after a switch to RX (R179, R385) -/

/-- Where each address of a list is answered by events that write no register but its own, a register holds what its own address writes. -/
theorem chipRegister_flatMap {g : RegAddr → List Event} {a : RegAddr} {l : List RegAddr} (hon : ∀ b, Event.setCe false ∉ g b)
    (hown : ∀ b ∈ l, b ≠ a → chipRegister a (g b) = none) : chipRegister a (l.flatMap g) = if a ∈ l then chipRegister a (g a) else none := by
  induction l with
  | nil => rfl
  | cons b l ih =>
    have hon' : Event.setCe false ∉ l.flatMap g := by
      simp only [List.mem_flatMap, not_exists, not_and]
      exact fun x _ => hon x
    rw [List.flatMap_cons, chipRegister_append hon', ih fun x hx => hown x (List.mem_cons_of_mem b hx)]
    by_cases hb : b = a
    · subst hb
      by_cases hl : b ∈ l <;> simp [hl]
    · rw [hown b List.mem_cons_self hb, Option.or_none]
      simp [Ne.symm hb]

/-- What the RX switch records at one address of its sequence (R179). -/
def rxRegisterEvents (c : Config) (s : State) (a : RegAddr) : List Event :=
  (if a = c.regClk ∧ s.mode = .transmitting ∧ imageAt s.stageTx a = imageAt s.stageRx a then [] else writeEvent s.stageRx a)
    ++ (if a = c.regPll then [.setTr false] else [])

theorem rxSwitchEvents_eq (c : Config) (s : State) : rxSwitchEvents c s = c.rxSeq.flatMap (rxRegisterEvents c s) := rfl

theorem powerOff_notMem_rxRegisterEvents (c : Config) (s : State) (b : RegAddr) : Event.setCe false ∉ rxRegisterEvents c s b := by
  refine fun h => (List.mem_append.mp h).elim ?_ ?_
  · split
    · exact List.not_mem_nil
    · exact powerOff_notMem_writeEvent _ b
  · split <;> simp

/-- At one address the switch writes that register alone, unless it is skipped. -/
theorem chipRegister_rxRegisterEvents (haddr : ∀ a v, imageAt s.stageRx a = some v → addrOf v = a) {a b : RegAddr} (hb : imageAt s.stageRx b ≠ none) :
    chipRegister a (rxRegisterEvents c s b) =
      if b = c.regClk ∧ s.mode = .transmitting ∧ imageAt s.stageTx b = imageAt s.stageRx b then none
      else if a = b then imageAt s.stageRx a else none := by
  have htr : chipRegister a (if b = c.regPll then [.setTr false] else []) = none := by split <;> rfl
  have hstaged : Staged s.stageRx [b] := by simpa [Staged] using hb
  rw [rxRegisterEvents, chipRegister_append (by split <;> simp), htr, Option.none_or]
  split
  · rfl
  · simpa using chipRegister_writes haddr hstaged (a := a)

theorem chipRegister_rxSwitchEvents (haddr : ∀ a v, imageAt s.stageRx a = some v → addrOf v = a) (hstaged : Staged s.stageRx c.rxSeq) (a : RegAddr) :
    chipRegister a (rxSwitchEvents c s) =
      if a = c.regClk ∧ s.mode = .transmitting ∧ imageAt s.stageTx a = imageAt s.stageRx a then none
      else if a ∈ c.rxSeq then imageAt s.stageRx a else none := by
  have hother : ∀ b ∈ c.rxSeq, b ≠ a → chipRegister a (rxRegisterEvents c s b) = none := fun b hb hne => by
    rw [chipRegister_rxRegisterEvents haddr (hstaged b hb), if_neg hne.symm, ite_self]
  rw [rxSwitchEvents_eq, chipRegister_flatMap (powerOff_notMem_rxRegisterEvents c s) hother]
  by_cases ha : a ∈ c.rxSeq
  · rw [if_pos ha, if_pos ha, chipRegister_rxRegisterEvents haddr (hstaged a ha), if_pos rfl]
  · rw [if_neg ha, if_neg ha, ite_self]

/-- Settles O29: past its three preconditions SET_RX_MODE is the RX switch; a good state has staged all that the switch writes. -/
theorem setRxModeSwitches : Obligations.SetRxModeSwitches := by
  intro s
  have hswitch := fun hon hplan (hframe : ¬ midFrame s) (hstaged : Staged s.stageRx Config.actual.rxSeq) =>
    thenOk_of_ok (setRxMode_completes hon hplan (not_midFrame_iff.mp hframe) hstaged)
  refine ⟨fun hon hplan hframe hstaged => ?switch, fun hoff => ?off, fun hon hplan => ?noPlan, fun hon hplan hm => ?midFrame,
    fun g hon hplan hframe => ?chip⟩
  case switch => exact finish_eq_next.mpr (hswitch hon hplan hframe hstaged)
  case off => exact finish_eq_fault.mpr (thenOk_of_error (setRxMode_of_off hoff _))
  case noPlan => exact finish_eq_fault.mpr (thenOk_of_error (setRxMode_of_noPlan hon hplan _))
  case midFrame => exact finish_eq_fault.mpr (thenOk_of_error (setRxMode_of_midFrame hon hplan hm _))
  case chip =>
    have hstaged : Staged s.stageRx Config.actual.rxSeq := g.working.staged_rx hplan
    have haddr : ∀ a v, imageAt s.stageRx a = some v → addrOf v = a := fun a v h => g.spec.inv9 a v (.inl h)
    refine ⟨_, finish_eq_next.mpr (hswitch hon hplan hframe hstaged), fun a => ?_⟩
    rw [answer_history, chipRegister_append (powerOff_notMem_switch _ s).2, chipRegister_rxSwitchEvents haddr hstaged]
    split
    · exact Option.none_or
    · split
      · next ha =>
        obtain ⟨v, hv⟩ := Option.ne_none_iff_exists'.mp (hstaged a ha)
        rw [hv, Option.some_or]
      · exact Option.none_or

end Sys2Proof.Proofs
end

section
/-! PROOFS. The sync word, the AFC loop and RECONFIGURE (R180 to R182, R188, R335). -/

namespace Sys2Proof.Proofs

open Sys2Proof.Machine Sys2Proof.Safety

variable {c : Config} {s s2 s3 : State} {f : Fault} {okRx okTx : Bool}

/-! ### The register lists (R180 to R182) -/

theorem setSyncWord_of_on (hon : s.mode ≠ .off) (c : Config) (word len tol : Nat) : setSyncWord c word len tol s = .ok { s with
    syncActive := ⟨word, len, tol⟩, sys := sysAfter s.sys (c.syncSeq word len tol), history := s.history ++ stagedEvents (c.syncSeq word len tol) } := by
  rw [setSyncWord, if_neg (not_not.mpr (busOk_iff.mpr hon)), writeSys_eq]

theorem enableAfc_of_on (hon : s.mode ≠ .off) (c : Config) (range ki kp : Nat) : enableAfc c range ki kp s = .ok { s with
    afcOn := true, afcActive := some ⟨range, ki, kp⟩, sys := sysAfter s.sys (c.packAfc true range ki kp)
    history := s.history ++ stagedEvents (c.packAfc true range ki kp) } := by
  rw [enableAfc, if_neg (not_not.mpr (busOk_iff.mpr hon)), writeSys_eq]

/-- The registers of a disabled loop, packed with the constants last programmed (R182). -/
def afcOffSeq (c : Config) (s : State) : List (RegAddr × Nat) :=
  c.packAfc false (s.afcActive.getD ⟨0, 0, 0⟩).range (s.afcActive.getD ⟨0, 0, 0⟩).ki (s.afcActive.getD ⟨0, 0, 0⟩).kp

theorem disableAfc_of_on (hon : s.mode ≠ .off) (c : Config) : disableAfc c s = .ok { s with
    afcOn := false, afcActive := none, sys := sysAfter s.sys (afcOffSeq c s), history := s.history ++ stagedEvents (afcOffSeq c s) } := by
  rw [disableAfc, if_neg (not_not.mpr (busOk_iff.mpr hon))]
  simp only [writeSys_eq]
  rfl

theorem setSyncWord_of_off (hoff : s.mode = .off) (c : Config) (word len tol : Nat) : setSyncWord c word len tol s = .error .busOff :=
  if_pos (not_busOk_iff.mpr hoff)

theorem enableAfc_of_off (hoff : s.mode = .off) (c : Config) (range ki kp : Nat) : enableAfc c range ki kp s = .error .busOff :=
  if_pos (not_busOk_iff.mpr hoff)

theorem disableAfc_of_off (hoff : s.mode = .off) (c : Config) : disableAfc c s = .error .busOff := if_pos (not_busOk_iff.mpr hoff)

/-- Settles O31: each command is one run of register writes on a powered chip. -/
theorem syncWordAndAfcCommandsWriteTheirRegisters : Obligations.SyncWordAndAfcCommandsWriteTheirRegisters := by
  intro word range ki kp len tol s
  refine ⟨fun hon => ⟨?sync, ?enable, ?disable⟩, fun hoff => ⟨?syncOff, ?enableOff, ?disableOff⟩⟩
  case sync => rintro _ rfl; exact finish_eq_next.mpr (thenOk_of_ok (setSyncWord_of_on hon _ _ _ _))
  case enable => rintro _ rfl; exact finish_eq_next.mpr (thenOk_of_ok (enableAfc_of_on hon _ _ _ _))
  case disable => rintro _ _ rfl rfl; exact finish_eq_next.mpr (thenOk_of_ok (disableAfc_of_on hon _))
  case syncOff => exact finish_eq_fault.mpr (thenOk_of_error (setSyncWord_of_off hoff _ _ _ _))
  case enableOff => exact finish_eq_fault.mpr (thenOk_of_error (enableAfc_of_off hoff _ _ _ _))
  case disableOff => exact finish_eq_fault.mpr (thenOk_of_error (disableAfc_of_off hoff _))

/-! ### The parts of RECONFIGURE (R188) -/

/-- The registers of the AFC part of RECONFIGURE: the loop of CFG, or a disabled one. -/
def afcSeq (c : Config) (s : State) : List (RegAddr × Nat) :=
  if s.cfg.afcEnable then c.packAfc true s.cfg.afcRange s.cfg.afcKi s.cfg.afcKp else afcOffSeq c s

theorem reconfigureAfc_of_on (hon : s.mode ≠ .off) (c : Config) : reconfigureAfc c s = .ok { s with
    afcOn := s.cfg.afcEnable, afcActive := if s.cfg.afcEnable then some ⟨s.cfg.afcRange, s.cfg.afcKi, s.cfg.afcKp⟩ else none
    sys := sysAfter s.sys (afcSeq c s), history := s.history ++ stagedEvents (afcSeq c s) } := by
  unfold reconfigureAfc afcSeq
  cases s.cfg.afcEnable with
  | true => exact enableAfc_of_on hon c _ _ _
  | false => exact disableAfc_of_on hon c

/-- After the sync-word part: CFG's sync word in force. -/
def synced (c : Config) (s : State) : State :=
  { s with
    syncActive := ⟨s.cfg.syncWord, s.cfg.syncLen, s.cfg.syncTol⟩
    sys := sysAfter s.sys (c.syncSeq s.cfg.syncWord s.cfg.syncLen s.cfg.syncTol)
    history := s.history ++ stagedEvents (c.syncSeq s.cfg.syncWord s.cfg.syncLen s.cfg.syncTol) }

/-- After the AFC part and the RX switch: CFG's loop in force, and the block receiving. -/
def receivingAgain (c : Config) (s : State) : State :=
  { s with
    mode := .receiving, trsw := false, syncArmed := true, afcOn := s.cfg.afcEnable
    afcActive := if s.cfg.afcEnable then some ⟨s.cfg.afcRange, s.cfg.afcKi, s.cfg.afcKp⟩ else none
    sys := sysAfter s.sys (afcSeq c s), history := s.history ++ stagedEvents (afcSeq c s) ++ rxSwitchEvents c s }

/-- The RX part of RECONFIGURE. -/
def reconfigureRx (c : Config) (s : State) : Except Fault (Bool × State) :=
  configureRx c s.cfg.bitrate s.cfg.modIndex s.cfg.rxFreq s.cfg.ifBwClass s

/-- The TX part of RECONFIGURE. -/
def reconfigureTx (c : Config) (s : State) : Except Fault (Bool × State) :=
  configureTx c s.cfg.bitrate s.cfg.modIndex s.cfg.txFreq s

theorem reconfigureCommand_of_off (hoff : s.mode = .off) (c : Config) : reconfigureCommand c s = .error .busOff := if_pos (not_busOk_iff.mpr hoff)

theorem reconfigureCommand_of_midFrame (hon : s.mode ≠ .off) (hm : midFrame s) (c : Config) : reconfigureCommand c s = .error .modeMidFrame := by
  rw [reconfigureCommand, if_neg (not_not.mpr (busOk_iff.mpr hon)), if_pos (not_betweenFrames_iff.mpr hm)]

theorem setSyncWord_synced (hon : s.mode ≠ .off) (c : Config) : setSyncWord c s.cfg.syncWord s.cfg.syncLen s.cfg.syncTol s = .ok (synced c s) :=
  setSyncWord_of_on hon c _ _ _

theorem reconfigureCommand_of_rx_error (hon : s.mode ≠ .off) (hb : betweenFrames s = true) (h2 : reconfigureRx c (synced c s) = .error f) :
    reconfigureCommand c s = .error f := by
  unfold reconfigureRx at h2
  rw [reconfigureCommand, if_neg (not_not.mpr (busOk_iff.mpr hon)), if_neg (not_not.mpr hb), setSyncWord_synced hon]
  simp only [h2]

theorem reconfigureCommand_of_tx_error (hon : s.mode ≠ .off) (hb : betweenFrames s = true) (h2 : reconfigureRx c (synced c s) = .ok (okRx, s2))
    (h3 : reconfigureTx c s2 = .error f) : reconfigureCommand c s = .error f := by
  unfold reconfigureRx at h2
  unfold reconfigureTx at h3
  rw [reconfigureCommand, if_neg (not_not.mpr (busOk_iff.mpr hon)), if_neg (not_not.mpr hb), setSyncWord_synced hon]
  simp only [h2, h3]

/-- Without an RX plan by then, RECONFIGURE ends in its RX switch. -/
theorem reconfigureCommand_of_noPlan (hon : s.mode ≠ .off) (hb : betweenFrames s = true) (h2 : reconfigureRx c (synced c s) = .ok (okRx, s2))
    (h3 : reconfigureTx c s2 = .ok (okTx, s3)) (hon3 : s3.mode ≠ .off) (hplan : s3.planRx = none) : reconfigureCommand c s = .error .noPlan := by
  obtain ⟨s4, h4, k4, hRx, -⟩ := reconfigureAfc_completes hon3 c
  have h5 : setRxMode c s4 = .error .noPlan := setRxMode_of_noPlan (k4.mode ▸ hon3) (hRx.trans hplan) c
  unfold reconfigureRx at h2
  unfold reconfigureTx at h3
  rw [reconfigureCommand, if_neg (not_not.mpr (busOk_iff.mpr hon)), if_neg (not_not.mpr hb), setSyncWord_synced hon]
  simp only [h2, h3, h4, h5]

/-- With an RX plan, new or earlier, RECONFIGURE completes. -/
theorem reconfigureCommand_of_planned (hon : s.mode ≠ .off) (hb : betweenFrames s = true) (h2 : reconfigureRx c (synced c s) = .ok (okRx, s2))
    (h3 : reconfigureTx c s2 = .ok (okTx, s3)) (hon3 : s3.mode ≠ .off) (hb3 : betweenFrames s3 = true) (hplan : s3.planRx ≠ none)
    (hstaged : Staged s3.stageRx c.rxSeq) :
    reconfigureCommand c s = .ok (answer (planStatus (okRx && okTx)) none (receivingAgain c s3)) :=
  reconfigureCommand_of_parts hon hb (setSyncWord_synced hon c) h2 h3 (reconfigureAfc_of_on hon3 c) (setRxMode_completes hon3 hplan hb3 hstaged)

/-! ### The faults of RECONFIGURE (R335) -/

theorem configureRx_error {rate h : Rat} {freq ifbw : Nat} (he : configureRx c rate h freq ifbw s = .error f) : f = .range := by
  unfold configureRx at he
  obtain hp | hp | ⟨p, hp, -⟩ := configurePlan_cases c .rx rate h freq s
  · simp only [hp] at he; cases he; rfl
  · simp only [hp] at he; cases he
  · simp only [hp] at he; cases he

/-- A setting that is not positive stops RECONFIGURE in its RX part, or, for the TX frequency alone, in its TX part. -/
theorem reconfigureCommand_of_not_positive (hon : s.mode ≠ .off) (hb : betweenFrames s = true)
    (hbad : s.cfg.bitrate ≤ 0 ∨ s.cfg.modIndex ≤ 0 ∨ s.cfg.rxFreq = 0 ∨ s.cfg.txFreq = 0) (c : Config) : reconfigureCommand c s = .error .range := by
  cases h2 : reconfigureRx c (synced c s) with
  | error f =>
    obtain rfl := configureRx_error h2
    exact reconfigureCommand_of_rx_error hon hb h2
  | ok x =>
    obtain ⟨okRx, s2⟩ := x
    have hcfg : s2.cfg = s.cfg := (configureRx_settings h2).cfg
    refine reconfigureCommand_of_tx_error hon hb h2 (configureTx_of_not_positive ?_ c s2)
    rw [hcfg]
    have hrx : ¬ (s.cfg.bitrate ≤ 0 ∨ s.cfg.modIndex ≤ 0 ∨ s.cfg.rxFreq = 0) := fun h => by
      cases h2.symm.trans (configureRx_of_not_positive h c _ (synced c s))
    tauto

section Fails

variable (hrx : PositiveInputs s.xtalHz s.cfg.bitrate s.cfg.modIndex s.cfg.rxFreq) (htx : PositiveInputs s.xtalHz s.cfg.bitrate s.cfg.modIndex s.cfg.txFreq)
  (hr : planClocks c s.xtalHz s.cfg.bitrate s.cfg.modIndex = none)

/-- After an RX plan that failed: the earlier plan and image stay. -/
def rxFailed (c : Config) (s : State) : State :=
  { synced c s with planErrorRx := true, history := (synced c s).history ++ [.emit .planFail] }

/-- After a plan that failed for both directions: the earlier plans and images stay. -/
def unplanned (c : Config) (s : State) : State :=
  { synced c s with
    planErrorRx := true, planErrorTx := true, history := (synced c s).history ++ [.emit .planFail, .emit .planFail] }

include hrx hr in
theorem reconfigureRx_of_fail : reconfigureRx c (synced c s) = .ok (false, rxFailed c s) := configureRx_of_fail (s := synced c s) hrx hr _

include htx hr in
theorem reconfigureTx_of_fail : reconfigureTx c (rxFailed c s) = .ok (false, unplanned c s) := by
  refine (configureTx_of_fail (s := rxFailed c s) htx hr).trans ?_
  simp only [rxFailed, List.append_assoc]
  rfl

end Fails

/-- Settles O34: power, the frame in progress, the signs, and last the plan the RX switch needs. -/
theorem reconfigureFaultsInOrder : Obligations.ReconfigureFaultsInOrder := by
  intro s
  refine ⟨fun hoff => ?off, fun hon hm => ?midFrame, fun hon hframe hbad => ?outOfRange,
    fun hon hframe hx hrate hmod hrx htx hr hplan => ?noPlan⟩
  case off => exact finish_eq_fault.mpr (reconfigureCommand_of_off hoff _)
  case midFrame => exact finish_eq_fault.mpr (reconfigureCommand_of_midFrame hon hm _)
  case outOfRange => exact finish_eq_fault.mpr (reconfigureCommand_of_not_positive hon (not_midFrame_iff.mp hframe) hbad _)
  case noPlan =>
    have h2 := reconfigureRx_of_fail ⟨hx, hrate, hmod, hrx⟩ hr
    have h3 := reconfigureTx_of_fail ⟨hx, hrate, hmod, htx⟩ hr
    exact finish_eq_fault.mpr (reconfigureCommand_of_noPlan hon (not_midFrame_iff.mp hframe) h2 h3 hon hplan)

/-! ### RECONFIGURE completes (R188) -/

/-- After an RX plan: CFG's plan in force and its image staged. -/
def rxPlanned (c : Config) (s : State) (r : PlannerResult) : State :=
  let plan := rxPlan c s.xtalHz s.cfg.bitrate s.cfg.modIndex s.cfg.rxFreq s.cfg.ifBwClass r
  { synced c s with planRx := some plan, planErrorRx := false, stageRx := rxStage c plan s.stageRx }

/-- After a plan for both directions: CFG's plans in force, their images staged, the PA to be warmed again. -/
def planned (c : Config) (s : State) (r : PlannerResult) : State :=
  let plan := channelPlan c s.xtalHz .tx s.cfg.bitrate s.cfg.modIndex s.cfg.txFreq r
  { rxPlanned c s r with planTx := some plan, planErrorTx := false, paWarm := false, stageTx := txStage c plan s.cfg.paPower s.stageTx }

theorem staged_rxStage (c : Config) (plan : ChannelPlan) (m : Image) : Staged (rxStage c plan m) c.rxSeq := staged_stageAll _ _ m

/-- RECONFIGURE where the planner plans. -/
theorem reconfigureCommand_of_plan {r : PlannerResult} (hon : s.mode ≠ .off) (hb : betweenFrames s = true)
    (hrx : PositiveInputs s.xtalHz s.cfg.bitrate s.cfg.modIndex s.cfg.rxFreq) (htx : PositiveInputs s.xtalHz s.cfg.bitrate s.cfg.modIndex s.cfg.txFreq)
    (hr : planClocks c s.xtalHz s.cfg.bitrate s.cfg.modIndex = some r) :
    reconfigureCommand c s = .ok (answer .ok none (receivingAgain c (planned c s r))) := by
  have h2 : reconfigureRx c (synced c s) = .ok (true, rxPlanned c s r) := configureRx_of_plan (s := synced c s) hrx hr _
  have h3 : reconfigureTx c (rxPlanned c s r) = .ok (true, planned c s r) := configureTx_of_plan (s := rxPlanned c s r) htx hr
  exact reconfigureCommand_of_planned hon hb h2 h3 hon hb nofun (staged_rxStage c _ _)

/-- RECONFIGURE where the planner fails and an earlier RX plan exists. -/
theorem reconfigureCommand_of_fail (hon : s.mode ≠ .off) (hb : betweenFrames s = true)
    (hrx : PositiveInputs s.xtalHz s.cfg.bitrate s.cfg.modIndex s.cfg.rxFreq) (htx : PositiveInputs s.xtalHz s.cfg.bitrate s.cfg.modIndex s.cfg.txFreq)
    (hr : planClocks c s.xtalHz s.cfg.bitrate s.cfg.modIndex = none) (hplan : s.planRx ≠ none) (hstaged : Staged s.stageRx c.rxSeq) :
    reconfigureCommand c s = .ok (answer .planFail none (receivingAgain c (unplanned c s))) :=
  reconfigureCommand_of_planned hon hb (reconfigureRx_of_fail hrx hr) (reconfigureTx_of_fail htx hr) hon hb hplan hstaged

/-- The history of a state may be written in another way. -/
theorem eq_withHistory {t : State} {h : List Event} (hh : t.history = h) : t = { t with history := h } := by
  subst hh; rfl

/-- Settles O33: the parts of RECONFIGURE one after another, with the planner's answer for both directions. -/
theorem reconfigureReappliesEverything : Obligations.ReconfigureReappliesEverything := by
  intro s g hon hframe hrate hmod hrxFreq htxFreq hplan
  have hb := not_midFrame_iff.mp hframe
  have hrx : PositiveInputs s.xtalHz s.cfg.bitrate s.cfg.modIndex s.cfg.rxFreq := ⟨g.working.xtal, hrate, hmod, hrxFreq⟩
  have htx : PositiveInputs s.xtalHz s.cfg.bitrate s.cfg.modIndex s.cfg.txFreq := ⟨g.working.xtal, hrate, hmod, htxFreq⟩
  cases hr : planClocks Config.actual s.xtalHz s.cfg.bitrate s.cfg.modIndex with
  | some r =>
    refine ⟨_, false, _, _, finish_eq_next.mpr (reconfigureCommand_of_plan hon hb hrx htx hr), rfl, rfl, rfl, ?_, nofun, fun r' hr' => ?_⟩
    · refine eq_withHistory ?_
      simp only [Bool.false_eq_true, if_false, List.append_nil]
      rfl
    · cases hr'
      exact ⟨_, _, rfl, rfl, rfl, rfl, imageAt_rxStage _ _ _, imageAt_txStage _ _ _ _⟩
  | none =>
    have hplan' : s.planRx ≠ none := hplan.resolve_right (not_not.mpr hr)
    exact ⟨_, true, _, _, finish_eq_next.mpr (reconfigureCommand_of_fail hon hb hrx htx hr hplan' (g.working.staged_rx hplan')), rfl, rfl, rfl, rfl,
      fun _ => ⟨rfl, rfl, rfl, rfl⟩, nofun⟩

end Sys2Proof.Proofs
end

section
/-! PROOFS. TX_START (R270 to R272, R335). -/

namespace Sys2Proof.Proofs

open Sys2Proof.Machine Sys2Proof.Safety

variable {c : Config} {s : State} {f : List Byte} {ft : FrameType}

/-! ### The verdict of carrier sense (R270) -/

/-- After the reading of TX_START that allows it: one readback, nothing else (R270). -/
def sensed (c : Config) (s : State) : State :=
  { s with
    drawCount := s.drawCount + 1, history := s.history ++ [.busRead c.selRssi (c.draws.readback s.drawCount c.selRssi)] }

/-- After the reading of TX_START that denies it, the counter at `q` (R270). -/
def denied (c : Config) (q : Nat) (s : State) : State :=
  { s with
    quarantine := q, drawCount := s.drawCount + 1
    history := s.history ++ [.busRead c.selRssi (c.draws.readback s.drawCount c.selRssi), .emit .csDenied] }

/-- The level TX_START reads (R183). -/
def sensedRssi (c : Config) (s : State) : Rat := rssiOf c (c.draws.readback s.drawCount c.selRssi)

theorem transmitAllowed_of_denied {q : Nat} (h : carrierSense c (sensedRssi c s) s = (false, q)) : transmitAllowed c s = (false, denied c q s) := by
  unfold sensedRssi at h
  simp [transmitAllowed_eq, h, denied]

theorem transmitAllowed_of_above (h : s.cfg.csThreshold < sensedRssi c s) : transmitAllowed c s = (false, denied c c.quarantineMax s) :=
  transmitAllowed_of_denied (if_pos h)

theorem transmitAllowed_of_quarantine (h : ¬ s.cfg.csThreshold < sensedRssi c s) (hq : 0 < s.quarantine) :
    transmitAllowed c s = (false, denied c (s.quarantine - 1) s) :=
  transmitAllowed_of_denied ((if_neg h).trans (if_pos hq))

theorem transmitAllowed_of_clear (h : ¬ s.cfg.csThreshold < sensedRssi c s) (hq : ¬ 0 < s.quarantine) :
    transmitAllowed c s = (true, sensed c s) := by
  have hv : carrierSense c (sensedRssi c s) s = (true, s.quarantine) := (if_neg h).trans (if_neg hq)
  unfold sensedRssi at hv
  simp [transmitAllowed_eq, hv, sensed]

/-! ### The host's answer (R117, R271) -/

/-- After the reading that allows it and the answer `a` of the host. -/
def asked (c : Config) (a : Option (List Byte)) (s : State) : State :=
  { s with
    drawCount := s.drawCount + 2, history := s.history ++ [.busRead c.selRssi (c.draws.readback s.drawCount c.selRssi), .hostPull a] }

theorem hostPull_sensed {a : Option (List Byte)} (ha : c.draws.hostPull (s.drawCount + 1) = a) : hostPull c (sensed c s) = (a, asked c a s) := by
  simp [hostPull_eq, sensed, asked, ha]

theorem txSwitchEvents_asked (c : Config) (a : Option (List Byte)) (s : State) : txSwitchEvents c (asked c a s) = txSwitchEvents c s := rfl

theorem loadFrame_asked (c : Config) (a : Option (List Byte)) (l : List Byte) (s : State) : loadFrame l (asked c a s) = loadFrame l s := rfl

theorem history_dropped (c : Config) (a : Option (List Byte)) (s : State) : (emit .txDropped (asked c a s)).history = s.history ++
    [.busRead c.selRssi (c.draws.readback s.drawCount c.selRssi), .hostPull a, .emit .txDropped] := List.append_assoc _ _ _

/-- What TX_START does with a frame of the host. -/
def takeFrame (c : Config) (f : List Byte) (s : State) : Except Fault State :=
  if c.maxPayload < f.length then .error .range
  else (txType c f.length).elim (.ok (answer .txDropped none (emit .txDropped s))) fun ft => startFrame c f ft s

theorem takeFrame_of_tooLong (h : c.maxPayload < f.length) (s : State) : takeFrame c f s = .error .range := if_pos h

theorem takeFrame_of_dropped (h : ¬ c.maxPayload < f.length) (ht : txType c f.length = none) (s : State) :
    takeFrame c f s = .ok (answer .txDropped none (emit .txDropped s)) := by
  rw [takeFrame, if_neg h, ht]
  rfl

theorem takeFrame_of_typed (h : ¬ c.maxPayload < f.length) (ht : txType c f.length = some ft) (s : State) :
    takeFrame c f s = startFrame c f ft s := by
  rw [takeFrame, if_neg h, ht]
  rfl

section Asks

variable (hm : s.mode = .receiving) (hframe : ¬ midFrame s)

include hm in
theorem busOk_of_receiving : busOk s = true := busOk_iff.mpr (by simp [hm])

include hm hframe

/-- In Receiving between frames TX_START asks (R271). -/
theorem mayStart : s.mode = .receiving ∧ s.rxState = .idle ∧ s.txState = .idle := ⟨hm, betweenFrames_iff.mp (not_midFrame_iff.mp hframe)⟩

theorem txStartCommand_of_denied {t : State} (ha : transmitAllowed c s = (false, t)) : txStartCommand c s = .ok (answer .denied none t) := by
  rw [txStartCommand, if_neg (not_not.mpr (busOk_of_receiving hm)), if_neg (not_not.mpr (mayStart hm hframe)), ha]
  rfl

theorem txStartCommand_of_noFrame (ha : transmitAllowed c s = (true, sensed c s)) (hf : c.draws.hostPull (s.drawCount + 1) = none) :
    txStartCommand c s = .ok (answer .noFrame none (asked c none s)) := by
  rw [txStartCommand, if_neg (not_not.mpr (busOk_of_receiving hm)), if_neg (not_not.mpr (mayStart hm hframe)), ha]
  simp only [hostPull_sensed hf]
  rfl

theorem txStartCommand_of_frame (ha : transmitAllowed c s = (true, sensed c s)) (hf : c.draws.hostPull (s.drawCount + 1) = some f) :
    txStartCommand c s = takeFrame c f (asked c (some f) s) := by
  rw [txStartCommand, if_neg (not_not.mpr (busOk_of_receiving hm)), if_neg (not_not.mpr (mayStart hm hframe)), ha]
  simp only [hostPull_sensed hf, takeFrame]
  cases txType c f.length <;> rfl

end Asks

/-! ### The frame (R271, R272) -/

theorem startFrame_of_noPlan (hplan : s.planTx = none) (c : Config) (f : List Byte) (ft : FrameType) : startFrame c f ft s = .error .noPlan :=
  if_pos hplan

/-- A frame that is loaded: the front buffer holds it, the block switches to transmit and the byte clock runs. -/
theorem startFrame_of_planned (hplan : s.planTx ≠ none) (hstaged : Staged s.stageTx c.txSeq) (hpa : imageAt s.stageTx c.regPa ≠ none) :
    startFrame c f ft s = .ok { s with
      mode := .transmitting, syncArmed := false, paWarm := true, trsw := true, ftype := ft, preIdx := 0, byteclkEn := true
      txState := if 0 < s.cfg.trainingBytes then .training else .preamble, buf := s.buf.set s.front (loadFrame f s)
      reply := some ⟨.ok, none⟩, history := s.history ++ txSwitchEvents c s } := by
  unfold startFrame
  rw [if_neg (by exact hplan), txModeSwitch_eq (by exact hstaged) (by exact hpa)]
  rfl

theorem read_writeAll_zero (hwf : Memory.wf (frontBuf s).payload) (f : List Byte) (j : Nat) :
    Memory.read (Memory.writeAll (frontBuf s).payload 0 f) j = if j < f.length then f[j]? else Memory.read (frontBuf s).payload j := by
  simp [Memory.read_writeAll hwf]

/-- Settles O53: carrier sense, the host's answer, the frame's length and the TX plan decide in this order what TX_START does. -/
theorem txStartLoadsAndSwitches : Obligations.TxStartLoadsAndSwitches := by
  rintro s hm hframe hstaged hwf _ rfl
  split
  · next habove => exact finish_eq_next.mpr (txStartCommand_of_denied hm hframe (transmitAllowed_of_above habove))
  next hlow =>
  split
  · next hq => exact finish_eq_next.mpr (txStartCommand_of_denied hm hframe (transmitAllowed_of_quarantine hlow hq))
  next hq =>
  have hclear := transmitAllowed_of_clear hlow hq
  split
  · next hf => exact finish_eq_next.mpr (txStartCommand_of_noFrame hm hframe hclear hf)
  next f hf =>
  have hcommand := txStartCommand_of_frame hm hframe hclear hf
  split
  · next hlong => exact finish_eq_fault.mpr (hcommand.trans (takeFrame_of_tooLong hlong _))
  next hfits =>
  split
  · next ht =>
    rw [takeFrame_of_dropped hfits ht, eq_withHistory (history_dropped _ _ s)] at hcommand
    exact finish_eq_next.mpr hcommand
  next ft ht =>
  rw [takeFrame_of_typed hfits ht] at hcommand
  split
  · next hplan => exact finish_eq_fault.mpr (hcommand.trans (startFrame_of_noPlan (s := asked _ (some f) s) hplan _ f ft))
  next hplan =>
  have hseq : Staged s.stageTx Config.actual.txSeq := fun a ha => hstaged hplan a (List.mem_cons_of_mem _ ha)
  have hpa : imageAt s.stageTx Config.actual.regPa ≠ none := hstaged hplan _ List.mem_cons_self
  have hstart := startFrame_of_planned (s := asked Config.actual (some f) s) (f := f) (ft := ft) hplan hseq hpa
  rw [txSwitchEvents_asked, loadFrame_asked] at hstart
  exact ⟨Memory.writeAll (frontBuf s).payload 0 f, read_writeAll_zero hwf f, finish_eq_next.mpr (hcommand.trans hstart)⟩

end Sys2Proof.Proofs
end

section
/-! PROOFS. The operating mode and the T/R switch: what each instruction does to both (R171, R172, R178, R179, R191, R386). -/

namespace Sys2Proof.Proofs

open Sys2Proof.Machine Sys2Proof.Safety

variable {c : Config} {s t u : State} {r : Except Fault State} {i : Instr}

/-! ### Steps that leave both alone -/

/-- A move of the T/R switch (R30). -/
def movesSwitch : Event → Bool
  | .setTr _ => true
  | _ => false

/-- Events among which the T/R switch does not move. -/
def SwitchUnmoved (l : List Event) : Prop := ∀ e ∈ l, movesSwitch e = false

theorem switchUnmoved_nil : SwitchUnmoved [] := nofun

theorem switchUnmoved_one {e : Event} (he : movesSwitch e = false) : SwitchUnmoved [e] := by
  simpa [SwitchUnmoved] using he

theorem SwitchUnmoved.append {l m : List Event} (hl : SwitchUnmoved l) (hm : SwitchUnmoved m) : SwitchUnmoved (l ++ m) :=
  fun e he => (List.mem_append.mp he).elim (hl e) (hm e)

theorem switchUnmoved_stagedEvents (l : List (RegAddr × Nat)) : SwitchUnmoved (stagedEvents l) := by
  intro e he
  obtain ⟨x, -, rfl⟩ := List.mem_map.mp he
  rfl

theorem switchUnmoved_writeEvent (m : Image) (a : RegAddr) : SwitchUnmoved (writeEvent m a) := by
  unfold writeEvent
  split
  · exact switchUnmoved_one rfl
  · exact switchUnmoved_nil

/-- The mode is kept, and the T/R switch does not move. -/
structure SwitchStill (s t : State) : Prop where
  mode : t.mode = s.mode
  events : ∃ l, t.history = s.history ++ l ∧ SwitchUnmoved l

theorem switchStill_of_silent (hm : t.mode = s.mode) (hh : t.history = s.history) : SwitchStill s t :=
  ⟨hm, [], hh.trans (List.append_nil _).symm, switchUnmoved_nil⟩

theorem switchStill_of_one {e : Event} (hm : t.mode = s.mode) (hh : t.history = s.history ++ [e]) (he : movesSwitch e = false) : SwitchStill s t :=
  ⟨hm, [e], hh, switchUnmoved_one he⟩

theorem SwitchStill.trans (h : SwitchStill s t) (h' : SwitchStill t u) : SwitchStill s u where
  mode := h'.mode.trans h.mode
  events := by
    obtain ⟨l, hl, hun⟩ := h.events
    obtain ⟨l', hl', hun'⟩ := h'.events
    exact ⟨l ++ l', by rw [hl', hl, List.append_assoc], hun.append hun'⟩

theorem switchStill_answer (st : Status) (res : Option Result) (s : State) : SwitchStill s (answer st res s) := switchStill_of_silent rfl rfl

theorem switchStill_record {e : Event} (he : movesSwitch e = false) (s : State) : SwitchStill s (record e s) := switchStill_of_one rfl rfl he

/-- An operation that leaves the mode and the switch alone where it answers. -/
def LeavesSwitch (s : State) : Except Fault State → Prop
  | .ok t => SwitchStill s t
  | .error _ => True

theorem LeavesSwitch.ok (h : LeavesSwitch s r) (hr : r = .ok t) : SwitchStill s t := by
  subst hr
  exact h

theorem LeavesSwitch.after (h : LeavesSwitch t r) (h' : SwitchStill s t) : LeavesSwitch s r := by
  cases r with
  | ok u => exact h'.trans h
  | error f => trivial

theorem LeavesSwitch.thenOk (h : LeavesSwitch s r) : LeavesSwitch s (thenOk r) := by
  cases r with
  | ok t => exact SwitchStill.trans h (switchStill_answer _ _ t)
  | error f => trivial

theorem leavesSwitch_answer (st : Status) (res : Option Result) (s : State) : LeavesSwitch s (.ok (answer st res s)) := switchStill_answer st res s

/-! ### Commands that leave both alone -/

theorem planClocksCommand_leavesSwitch (c : Config) (xtal : Word) (p q : RatArg) (s : State) : LeavesSwitch s (planClocksCommand c xtal p q s) := by
  unfold planClocksCommand
  split
  · exact leavesSwitch_answer _ _ s
  split
  · split
    · exact leavesSwitch_answer _ _ s
    · exact leavesSwitch_answer _ _ s
  · trivial

theorem readCommand_leavesSwitch (c : Config) (sel : Selector) (conv : Word → Result) (s : State) : LeavesSwitch s (readCommand c sel conv s) := by
  by_cases hon : s.mode = .off
  · rw [readCommand_of_off hon]; trivial
  · rw [readCommand_of_on hon]; exact switchStill_of_one rfl rfl rfl

theorem regWriteCommand_leavesSwitch (v : Word) (s : State) : LeavesSwitch s (regWriteCommand v s) := by
  by_cases hon : s.mode = .off
  · rw [regWriteCommand_of_off hon]; trivial
  · rw [regWriteCommand_of_on hon]; exact switchStill_of_one rfl rfl rfl

theorem scrApplyCommand_leavesSwitch (data seq : List Byte) (s : State) : LeavesSwitch s (scrApplyCommand data seq s) := by
  unfold scrApplyCommand
  split
  · trivial
  · exact leavesSwitch_answer _ _ s

theorem configGetCommand_leavesSwitch (id : Byte) (s : State) : LeavesSwitch s (configGetCommand id s) := by
  unfold configGetCommand
  split
  · exact leavesSwitch_answer _ _ s
  split
  · exact leavesSwitch_answer _ _ s
  · exact leavesSwitch_answer _ _ s

theorem configSetCommand_leavesSwitch (id : Byte) (v : ConfigArg) (s : State) : LeavesSwitch s (configSetCommand id v s) := by
  unfold configSetCommand
  split
  · exact leavesSwitch_answer _ _ s
  · exact switchStill_of_silent rfl rfl

theorem configureRx_switchStill {rate h : Rat} {freq ifbw : Nat} {ok : Bool} (he : configureRx c rate h freq ifbw s = .ok (ok, t)) : SwitchStill s t := by
  unfold configureRx at he
  split at he
  · cases he
  · cases he; exact switchStill_of_one rfl rfl rfl
  · cases he; exact switchStill_of_silent rfl rfl

theorem configureTx_switchStill {rate h : Rat} {freq : Nat} {ok : Bool} (he : configureTx c rate h freq s = .ok (ok, t)) : SwitchStill s t := by
  unfold configureTx at he
  split at he
  · cases he
  · cases he; exact switchStill_of_one rfl rfl rfl
  · cases he; exact switchStill_of_silent rfl rfl

theorem configureRxCommand_leavesSwitch (c : Config) (p q : RatArg) (freq : Word) (ifbw : Byte) (s : State) :
    LeavesSwitch s (configureRxCommand c p q freq ifbw s) := by
  unfold configureRxCommand
  split
  · exact leavesSwitch_answer _ _ s
  split
  · trivial
  · next he => exact (configureRx_switchStill he).trans (switchStill_answer _ _ _)

theorem configureTxCommand_leavesSwitch (c : Config) (p q : RatArg) (freq : Word) (s : State) : LeavesSwitch s (configureTxCommand c p q freq s) := by
  unfold configureTxCommand
  split
  · exact leavesSwitch_answer _ _ s
  split
  · trivial
  · next he => exact (configureTx_switchStill he).trans (switchStill_answer _ _ _)

theorem setSyncWord_leavesSwitch (c : Config) (word len tol : Nat) (s : State) : LeavesSwitch s (setSyncWord c word len tol s) := by
  by_cases hon : s.mode = .off
  · rw [setSyncWord_of_off hon]; trivial
  · rw [setSyncWord_of_on hon]; exact ⟨rfl, _, rfl, switchUnmoved_stagedEvents _⟩

theorem enableAfc_leavesSwitch (c : Config) (range ki kp : Nat) (s : State) : LeavesSwitch s (enableAfc c range ki kp s) := by
  by_cases hon : s.mode = .off
  · rw [enableAfc_of_off hon]; trivial
  · rw [enableAfc_of_on hon]; exact ⟨rfl, _, rfl, switchUnmoved_stagedEvents _⟩

theorem disableAfc_leavesSwitch (c : Config) (s : State) : LeavesSwitch s (disableAfc c s) := by
  by_cases hon : s.mode = .off
  · rw [disableAfc_of_off hon]; trivial
  · rw [disableAfc_of_on hon]; exact ⟨rfl, _, rfl, switchUnmoved_stagedEvents _⟩

theorem reconfigureAfc_leavesSwitch (c : Config) (s : State) : LeavesSwitch s (reconfigureAfc c s) := by
  unfold reconfigureAfc
  split
  · exact enableAfc_leavesSwitch c _ _ _ s
  · exact disableAfc_leavesSwitch c s

theorem transmitAllowed_switchStill (c : Config) (s : State) : SwitchStill s (transmitAllowed c s).2 := by
  rw [transmitAllowed_eq]
  refine ⟨rfl, _, List.append_assoc _ _ _, (switchUnmoved_one rfl).append ?_⟩
  split
  · exact switchUnmoved_nil
  · exact switchUnmoved_one rfl

theorem csCheckCommand_leavesSwitch (c : Config) (s : State) : LeavesSwitch s (csCheckCommand c s) := by
  unfold csCheckCommand
  split
  · trivial
  · exact (transmitAllowed_switchStill c s).trans (switchStill_answer _ _ _)

theorem drainReadings_switchStill (c : Config) (s : State) : SwitchStill s (drainReadings c s).2.2 := by
  by_cases hon : s.mode = .off
  · rw [drainReadings_of_off hon]; exact switchStill_of_silent rfl rfl
  · rw [drainReadings_of_on hon]; exact ⟨rfl, [_, _], rfl, (switchUnmoved_one rfl).append (switchUnmoved_one rfl)⟩

theorem rxDrainBeginCommand_leavesSwitch (c : Config) (s : State) : LeavesSwitch s (rxDrainBeginCommand c s) := by
  have hread := drainReadings_switchStill c s
  unfold rxDrainBeginCommand
  split
  · exact leavesSwitch_answer _ _ s
  split
  · exact leavesSwitch_answer _ _ s
  generalize drainReadings c s = d at hread
  simp only
  split
  · trivial
  · exact hread.trans (switchStill_of_one rfl rfl rfl)

theorem rxDrainEndCommand_leavesSwitch (s : State) : LeavesSwitch s (rxDrainEndCommand s) := by
  unfold rxDrainEndCommand
  split
  · exact switchStill_of_silent rfl rfl
  · exact leavesSwitch_answer _ _ s

/-! ### The handlers, the completion of a transmission apart (R249 to R258) -/

theorem evSyncDetect_leavesSwitch (c : Config) (s : State) : LeavesSwitch s (evSyncDetect c s) := by
  unfold evSyncDetect
  cases s.syncArmed with
  | false => exact switchStill_of_silent rfl rfl
  | true => exact switchStill_of_one rfl rfl rfl

theorem prefixCheck_switchStill (s : State) : SwitchStill s (prefixCheck s) := by
  unfold prefixCheck
  split
  · exact switchStill_of_one rfl rfl rfl
  · exact switchStill_of_silent rfl rfl

theorem prefixByte_switchStill (c : Config) (b : Byte) (s : State) : SwitchStill s (prefixByte c b s) := by
  have hcount : ∀ f e, SwitchStill s { setFrontBuf f s with rxErr := e, rxState := .preamble } := fun _ _ => switchStill_of_silent rfl rfl
  unfold prefixByte
  simp only
  split
  · exact (hcount _ _).trans (prefixCheck_switchStill _)
  · exact hcount _ _

theorem rxComplete_switchStill (s : State) : SwitchStill s (rxComplete s) := by
  unfold rxComplete
  split
  · exact switchStill_of_one rfl rfl rfl
  · exact switchStill_of_one rfl rfl rfl

theorem bodyByte_leavesSwitch (c : Config) (b : Byte) (s : State) : LeavesSwitch s (bodyByte c b s) := by
  unfold bodyByte
  simp only
  split
  · trivial
  · have hstore : ∀ f : FrameBuffer, SwitchStill s (setFrontBuf f s) := fun _ => switchStill_of_silent rfl rfl
    split
    · exact (hstore _).trans (rxComplete_switchStill _)
    · exact hstore _

theorem rxByte_leavesSwitch (c : Config) (b : Byte) (s : State) : LeavesSwitch s (rxByte c b s) := by
  unfold rxByte
  split
  · trivial
  · exact bodyByte_leavesSwitch c b s
  all_goals
    split
    · exact prefixByte_switchStill c b s
    split
    · exact switchStill_of_silent rfl rfl
    · trivial

theorem trainingByte_leavesSwitch (c : Config) (s : State) : LeavesSwitch s (trainingByte c s) := by
  unfold trainingByte
  simp only
  split
  · trivial
  · refine switchStill_of_one (e := .txOut c.trainingSymbol) ?_ ?_ rfl
    · split <;> rfl
    · split <;> rfl

theorem preambleByte_leavesSwitch (c : Config) (s : State) : LeavesSwitch s (preambleByte c s) := by
  unfold preambleByte
  split
  · trivial
  · next b _ =>
    refine switchStill_of_one (e := .txOut b) ?_ ?_ rfl
    · simp only; split <;> rfl
    · simp only; split <;> rfl

theorem txBodyByte_switch (hb : s.txState = .body) (h : txBodyByte c s = .ok t) : SwitchStill s t ∨ (AllSent s ∧ t = afterTransmission c s) := by
  unfold txBodyByte at h
  simp only at h
  split at h
  · split at h
    · cases h
    · cases h; exact .inl (switchStill_of_one rfl rfl rfl)
  split at h
  · next hsent => exact .inr ⟨⟨hb, hsent⟩, eq_of_txComplete_ok h⟩
  · cases h

theorem txByte_switch (h : txByte c s = .ok t) : SwitchStill s t ∨ (AllSent s ∧ t = afterTransmission c s) := by
  unfold txByte at h
  split at h
  · cases h
  · exact .inl ((trainingByte_leavesSwitch c s).ok h)
  · exact .inl ((preambleByte_leavesSwitch c s).ok h)
  · next hb => exact txBodyByte_switch hb h

theorem evByteClock_switch {b : Byte} (h : evByteClock c b s = .ok t) :
    SwitchStill s t ∨ (AllSent s ∧ t = afterTransmission c (record .byteClock s)) := by
  unfold evByteClock at h
  cases hclk : s.byteclkEn with
  | false =>
    rw [hclk] at h
    cases h
    exact .inl (switchStill_of_silent rfl rfl)
  | true =>
    rw [hclk, takeEvent_true] at h
    unfold byteClockHandler at h
    split at h
    · obtain hstill | hsent := txByte_switch h
      · exact .inl ((switchStill_record rfl s).trans hstill)
      · exact .inr hsent
    · exact .inl ((switchStill_record rfl s).trans ((rxByte_leavesSwitch c b _).ok h))

end Sys2Proof.Proofs
end

section
/-! PROOFS. The transitions of the mode, and where in a step's events the T/R switch moves (R60, R191, R386). -/

namespace Sys2Proof.Proofs

open Sys2Proof.Machine Sys2Proof.Safety

variable {c : Config} {s t u : State} {i : Instr}

/-! ### The steps that change the mode -/

/-- The block is taken out of service, or brought up idle: no transmission begins, and a power-up reset records nothing (R60, R171, R172). -/
structure OutOfService (i : Instr) (s t : State) : Prop where
  mode : (t.mode = .off ∧ (i = .powerOff ∨ i = .softReset ∨ i = .evPowerUpReset)) ∨ (t.mode = .idle ∧ (∃ xtal, i = .powerOn xtal) ∧ ¬ midFrame s)
  notAsserted : .setTr true ∉ newEvents s t
  silent : (∀ x, i ≠ .powerOn x) → i ≠ .powerOff → i ≠ .softReset → newEvents s t = []

/-- A switch to RX from the images of `t`, whatever else the step recorded before and after it (R179). -/
structure SwitchedToRx (c : Config) (i : Instr) (s t : State) : Prop where
  mode : t.mode = .receiving
  on : s.mode ≠ .off
  frame : ¬ midFrame t
  cause : (i = .setRxMode ∧ ¬ midFrame s) ∨ (i = .reconfigure ∧ ¬ midFrame s) ∨ ∃ b, i = .evByteClock b ∧ s.txState = .body
  events : ∃ u l m, u.stageRx = t.stageRx ∧ newEvents s t = l ++ rxSwitchEvents c u ++ m ∧ SwitchUnmoved l ∧ SwitchUnmoved m

/-- A switch to TX from the images of `t`, whatever else the step recorded before it (R178). -/
structure SwitchedToTx (c : Config) (i : Instr) (s t : State) : Prop where
  mode : t.mode = .transmitting
  on : s.mode ≠ .off
  frame : ¬ midFrame s
  cause : i = .setTxMode ∨ (i = .txStart ∧ s.mode = .receiving)
  events : ∃ u l, u.stageTx = t.stageTx ∧ newEvents s t = l ++ txSwitchEvents c u ∧ SwitchUnmoved l

theorem newEvents_self (s : State) : newEvents s s = [] := List.drop_length

theorem powerOnCommand_outOfService {xtal : Word} (h : powerOnCommand c xtal s = .ok t) : OutOfService (.powerOn xtal) s t := by
  have hx : xtal ≠ 0#32 := by rintro rfl; cases h.symm.trans (powerOnCommand_of_zero c s)
  have hframe : ¬ midFrame s := fun hm => by cases h.symm.trans (powerOnCommand_of_midFrame hx hm c)
  rw [powerOnCommand_of_betweenFrames hx (not_midFrame_iff.mp hframe)] at h
  cases h
  refine ⟨.inr ⟨rfl, ⟨xtal, rfl⟩, hframe⟩, ?_, fun hi => absurd rfl (hi xtal)⟩
  rw [newEvents_of_append (l := [.setCe true] ++ stagedEvents (c.powerOnSeq xtal.toNat).toList ++ if s.trsw then [.setTr false] else [])
    (by simp only [List.append_assoc])]
  have hwrites : Event.setTr true ∉ stagedEvents (c.powerOnSeq xtal.toNat).toList := fun hmem => by
    cases switchUnmoved_stagedEvents _ _ hmem
  cases s.trsw <;> simpa using hwrites

theorem powerOffCommand_switch (h : powerOffCommand s = .ok t) : SwitchStill s t ∨ OutOfService .powerOff s t := by
  by_cases hoff : s.mode = .off
  · rw [powerOffCommand_of_off hoff] at h
    cases h
    exact .inl (switchStill_answer _ _ s)
  · rw [powerOffCommand_of_on hoff] at h
    cases h
    refine .inr ⟨.inl ⟨rfl, .inl rfl⟩, ?_, fun _ hi => absurd rfl hi⟩
    rw [newEvents_of_append (List.append_assoc _ _ _)]
    cases s.trsw <;> simp

theorem softReset_outOfService (c : Config) (s : State) : OutOfService .softReset s (softReset c (answer .ok none s)) := by
  refine ⟨.inl ⟨rfl, .inr (.inl rfl)⟩, ?_, fun _ _ hi => absurd rfl hi⟩
  have hsoft : newEvents s (softReset c (answer .ok none s)) = newEvents (answer .ok none s) (softReset c (answer .ok none s)) := rfl
  rw [hsoft, newEvents_of_append (softReset_history c _)]
  cases (answer .ok none s).trsw <;> cases (answer .ok none s).ce <;> simp

theorem clearState_outOfService (c : Config) (s : State) : OutOfService .evPowerUpReset s (clearState c s) := by
  have hnone : newEvents s (clearState c s) = [] := newEvents_self s
  exact ⟨.inl ⟨rfl, .inr (.inr rfl)⟩, by simp [hnone], fun _ _ _ => hnone⟩

/-! ### SET_RX_MODE and SET_TX_MODE that answer -/

theorem setRxMode_eq_ok (h : setRxMode c s = .ok t) : s.mode ≠ .off ∧ ¬ midFrame s
    ∧ t = { s with mode := .receiving, trsw := false, syncArmed := true, history := s.history ++ rxSwitchEvents c s } := by
  have hon : s.mode ≠ .off := fun hoff => by cases h.symm.trans (setRxMode_of_off hoff c)
  have hplan : s.planRx ≠ none := fun hp => by cases h.symm.trans (setRxMode_of_noPlan hon hp c)
  have hframe : ¬ midFrame s := fun hm => by cases h.symm.trans (setRxMode_of_midFrame hon hplan hm c)
  have hready : setRxMode c s = rxModeSwitch c s := by
    rw [setRxMode, if_neg (not_not.mpr (busOk_iff.mpr hon)), if_neg hplan, if_neg (not_not.mpr (not_midFrame_iff.mp hframe))]
  exact ⟨hon, hframe, eq_of_rxModeSwitch_ok (hready.symm.trans h)⟩

theorem setTxMode_eq_ok (h : setTxMode c s = .ok t) : s.mode ≠ .off ∧ ¬ midFrame s
    ∧ t = { s with mode := .transmitting, syncArmed := false, paWarm := true, trsw := true, history := s.history ++ txSwitchEvents c s } := by
  have hon : s.mode ≠ .off := fun hoff => by cases h.symm.trans (setTxMode_of_off hoff c)
  have hplan : s.planTx ≠ none := fun hp => by cases h.symm.trans (setTxMode_of_noPlan hon hp c)
  have hframe : ¬ midFrame s := fun hm => by cases h.symm.trans (setTxMode_of_midFrame hon hplan hm c)
  have hready := setTxMode_of_ready hon hplan (not_midFrame_iff.mp hframe) c
  exact ⟨hon, hframe, eq_of_txModeSwitch_ok (hready.symm.trans h)⟩

theorem setRxModeCommand_switched (h : setRxModeCommand c s = .ok t) : SwitchedToRx c .setRxMode s t := by
  obtain ⟨u, hu, rfl⟩ := thenOk_eq_ok.mp h
  obtain ⟨hon, hframe, rfl⟩ := setRxMode_eq_ok hu
  refine ⟨rfl, hon, hframe, .inl ⟨rfl, hframe⟩, s, [], [], rfl, ?_, switchUnmoved_nil, switchUnmoved_nil⟩
  rw [List.nil_append, List.append_nil]
  exact newEvents_of_append rfl

theorem setTxModeCommand_switched (h : setTxModeCommand c s = .ok t) : SwitchedToTx c .setTxMode s t := by
  obtain ⟨u, hu, rfl⟩ := thenOk_eq_ok.mp h
  obtain ⟨hon, hframe, rfl⟩ := setTxMode_eq_ok hu
  exact ⟨rfl, hon, hframe, .inl rfl, s, [], rfl, newEvents_of_append rfl, switchUnmoved_nil⟩

/-! ### RECONFIGURE -/

/-- Everything before the last part of RECONFIGURE leaves the switch alone; the last part is SET_RX_MODE. -/
theorem reconfigureCommand_switched (h : reconfigureCommand c s = .ok t) : SwitchedToRx c .reconfigure s t := by
  have hon : s.mode ≠ .off := fun hoff => by cases h.symm.trans (reconfigureCommand_of_off hoff c)
  have hframe : ¬ midFrame s := fun hm => by cases h.symm.trans (reconfigureCommand_of_midFrame hon hm c)
  obtain ⟨s1, s2, s3, s4, s5, _, _, h1, h2, h3, h4, h5, rfl⟩ := reconfigureCommand_ok h
  have hsync := (setSyncWord_leavesSwitch c _ _ _ s).ok h1
  have hplans := (configureRx_switchStill h2).trans (configureTx_switchStill h3)
  obtain ⟨l, hl, hun⟩ := ((hsync.trans hplans).trans ((reconfigureAfc_leavesSwitch c s3).ok h4)).events
  obtain ⟨-, hframe4, rfl⟩ := setRxMode_eq_ok h5
  refine ⟨rfl, hon, hframe4, .inr (.inl ⟨rfl, hframe⟩), s4, l, [], rfl, ?_, hun, switchUnmoved_nil⟩
  rw [List.append_nil]
  exact newEvents_of_append (by rw [answer_history, hl, List.append_assoc])

/-! ### TX_START -/

theorem txStartCommand_of_busy (hon : s.mode ≠ .off) (hbusy : ¬ (s.mode = .receiving ∧ s.rxState = .idle ∧ s.txState = .idle)) :
    txStartCommand c s = .ok (answer .busy none s) := by
  rw [txStartCommand, if_neg (not_not.mpr (busOk_iff.mpr hon)), if_pos hbusy]

theorem txStartCommand_of_off (hoff : s.mode = .off) (c : Config) : txStartCommand c s = .error .busOff := if_pos (not_busOk_iff.mpr hoff)

theorem startFrame_eq_ok {f : List Byte} {ft : FrameType} (h : startFrame c f ft s = .ok t) :
    t.mode = .transmitting ∧ t.stageTx = s.stageTx ∧ t.history = s.history ++ txSwitchEvents c s := by
  unfold startFrame at h
  simp only at h
  split at h
  · cases h
  split at h
  · cases h
  next hswitch =>
  cases h
  rw [eq_of_txModeSwitch_ok hswitch]
  exact ⟨rfl, rfl, rfl⟩

theorem asked_switchStill (c : Config) (a : Option (List Byte)) (s : State) : SwitchStill s (asked c a s) :=
  ⟨rfl, _, rfl, (switchUnmoved_one rfl).append (switchUnmoved_one rfl)⟩

/-- A frame of the host is dropped, or the block switches to transmit. -/
theorem takeFrame_eq_ok {f : List Byte} (h : takeFrame c f s = .ok t) :
    SwitchStill s t ∨ (t.mode = .transmitting ∧ t.stageTx = s.stageTx ∧ t.history = s.history ++ txSwitchEvents c s) := by
  by_cases hlong : c.maxPayload < f.length
  · rw [takeFrame_of_tooLong hlong] at h
    cases h
  cases ht : txType c f.length with
  | none =>
    rw [takeFrame_of_dropped hlong ht] at h
    cases h
    exact .inl (switchStill_of_one rfl rfl rfl)
  | some ft =>
    rw [takeFrame_of_typed hlong ht] at h
    exact .inr (startFrame_eq_ok h)

theorem txStartCommand_switch (h : txStartCommand c s = .ok t) : SwitchStill s t ∨ SwitchedToTx c .txStart s t := by
  have hon : s.mode ≠ .off := fun hoff => by cases h.symm.trans (txStartCommand_of_off hoff c)
  by_cases hidle : s.mode = .receiving ∧ s.rxState = .idle ∧ s.txState = .idle
  case neg =>
    rw [txStartCommand_of_busy hon hidle] at h
    cases h
    exact .inl (switchStill_answer _ _ s)
  obtain ⟨hm, hbetween⟩ := hidle
  have hframe : ¬ midFrame s := not_midFrame_iff.mpr (betweenFrames_iff.mpr hbetween)
  have hdenied : ∀ q, SwitchStill s (denied c q s) := fun _ =>
    ⟨rfl, _, rfl, (switchUnmoved_one rfl).append (switchUnmoved_one rfl)⟩
  by_cases habove : s.cfg.csThreshold < sensedRssi c s
  · rw [txStartCommand_of_denied hm hframe (transmitAllowed_of_above habove)] at h
    cases h
    exact .inl ((hdenied _).trans (switchStill_answer _ _ _))
  by_cases hq : 0 < s.quarantine
  · rw [txStartCommand_of_denied hm hframe (transmitAllowed_of_quarantine habove hq)] at h
    cases h
    exact .inl ((hdenied _).trans (switchStill_answer _ _ _))
  have hclear := transmitAllowed_of_clear habove hq
  cases hf : c.draws.hostPull (s.drawCount + 1) with
  | none =>
    rw [txStartCommand_of_noFrame hm hframe hclear hf] at h
    cases h
    exact .inl ((asked_switchStill c none s).trans (switchStill_answer _ _ _))
  | some f =>
    rw [txStartCommand_of_frame hm hframe hclear hf] at h
    have hasked := asked_switchStill c (some f) s
    obtain hdropped | ⟨hmode, hstage, hhistory⟩ := takeFrame_eq_ok h
    · exact .inl (hasked.trans hdropped)
    · obtain ⟨l, hl, hun⟩ := hasked.events
      exact .inr ⟨hmode, hon, hframe, .inr ⟨rfl, hm⟩, _, l, hstage.symm,
        newEvents_of_append (by rw [hhistory, hl, List.append_assoc]), hun⟩

/-! ### Every instruction -/

/-- The completion of a transmission is a switch to RX (R259). -/
theorem afterTransmission_switched (g : Good c s) (hsent : AllSent s) (b : Byte) :
    SwitchedToRx c (.evByteClock b) s (afterTransmission c (record .byteClock s)) := by
  have hbusy : s.txState ≠ .idle := by simp [hsent.1]
  have hframe : ¬ midFrame (afterTransmission c (record .byteClock s)) :=
    not_midFrame_iff.mpr (betweenFrames_iff.mpr ⟨g.rx_idle_of_tx hbusy, rfl⟩)
  exact ⟨rfl, by simp [g.spec.inv5 hbusy], hframe, .inr (.inr ⟨b, rfl, hsent.1⟩), s, _, _, rfl, newEvents_afterTransmission c s,
    switchUnmoved_one rfl, switchUnmoved_one rfl⟩

/-- What an instruction does to the mode and the T/R switch. -/
inductive SwitchCases (c : Config) (i : Instr) (s t : State) : Prop where
  | still (h : SwitchStill s t)
  | out (h : OutOfService i s t)
  | toRx (h : SwitchedToRx c i s t)
  | toTx (h : SwitchedToTx c i s t)

theorem exec_switchCases (g : Good Config.actual s) (h : exec i s = .next t) : SwitchCases Config.actual i s t := by
  have hstill : ∀ {r}, LeavesSwitch s r → finish r = .next t → SwitchCases Config.actual i s t :=
    fun hr h => .still (hr.ok (finish_eq_next.mp h))
  cases i with
  | planClocks xtal p q => exact hstill (planClocksCommand_leavesSwitch _ xtal p q s) h
  | readRssi | readAfcOffset | readTemperature | readSupplyVoltage | readChipVersion | regRead => exact hstill (readCommand_leavesSwitch _ _ _ s) h
  | regWrite v => exact hstill (regWriteCommand_leavesSwitch v s) h
  | scrApply data seq => exact hstill (scrApplyCommand_leavesSwitch data seq s) h
  | configGet id => exact hstill (configGetCommand_leavesSwitch id s) h
  | configSet id v => exact hstill (configSetCommand_leavesSwitch id v s) h
  | scrGenerate | serialGet | fwRevGet => exact hstill (leavesSwitch_answer _ _ s) h
  | serialSet v => cases h; exact .still (switchStill_of_silent rfl rfl)
  | configureRx p q freq ifbw => exact hstill (configureRxCommand_leavesSwitch _ p q freq ifbw s) h
  | configureTx p q freq => exact hstill (configureTxCommand_leavesSwitch _ p q freq s) h
  | setSyncWord => exact hstill (setSyncWord_leavesSwitch _ _ _ _ s).thenOk h
  | enableAfc => exact hstill (enableAfc_leavesSwitch _ _ _ _ s).thenOk h
  | disableAfc => exact hstill (disableAfc_leavesSwitch _ s).thenOk h
  | csCheck => exact hstill (csCheckCommand_leavesSwitch _ s) h
  | rxDrainBegin => exact hstill (rxDrainBeginCommand_leavesSwitch _ s) h
  | rxDrainEnd => exact hstill (rxDrainEndCommand_leavesSwitch s) h
  | evSyncDetect => exact hstill (evSyncDetect_leavesSwitch _ s) h
  | powerOn => exact .out (powerOnCommand_outOfService (finish_eq_next.mp h))
  | powerOff => exact (powerOffCommand_switch (finish_eq_next.mp h)).elim .still .out
  | softReset => cases h; exact .out (softReset_outOfService _ s)
  | evPowerUpReset => cases h; exact .out (clearState_outOfService _ s)
  | setRxMode => exact .toRx (setRxModeCommand_switched (finish_eq_next.mp h))
  | setTxMode => exact .toTx (setTxModeCommand_switched (finish_eq_next.mp h))
  | reconfigure => exact .toRx (reconfigureCommand_switched (finish_eq_next.mp h))
  | txStart => exact (txStartCommand_switch (finish_eq_next.mp h)).elim .still .toTx
  | evByteClock b =>
    obtain hs | ⟨hsent, rfl⟩ := evByteClock_switch (finish_eq_next.mp h)
    · exact .still hs
    · exact .toRx (afterTransmission_switched g hsent b)
  | bootloaderEnter => cases h

/-- Settles O38: a step that does not keep the mode takes the block out of service, brings it up, or is a mode switch, after which INV11 gives the plan. -/
theorem modeTransitionsAreTheListedOnes : Obligations.ModeTransitionsAreTheListedOnes := by
  intro i s t g h
  have gt := (exec_goodNext g h).good
  cases exec_switchCases g h with
  | still hs => exact .inl hs.mode
  | out ho => exact ho.mode.elim (.inr ∘ .inl) (.inr ∘ .inr ∘ .inl)
  | toRx hr => exact .inr (.inr (.inr (.inl ⟨hr.mode, hr.on, gt.spec.inv11.1 hr.mode, hr.frame, hr.cause⟩)))
  | toTx ht => exact .inr (.inr (.inr (.inr ⟨ht.mode, ht.on, gt.spec.inv11.2 ht.mode, ht.frame, ht.cause⟩)))

/-! ### Where the switch moves (R386) -/

/-- Each assertion of the T/R switch is followed at once by the PLL write, each release comes right after one. -/
structure SwitchesAtPll (c : Config) (l : List Event) : Prop where
  asserted : ∀ k, l[k]? = some (.setTr true) → ∃ v, l[k + 1]? = some (.busWrite v) ∧ addrOf v = c.regPll
  released : ∀ k, l[k]? = some (.setTr false) → ∃ j v, k = j + 1 ∧ l[j]? = some (.busWrite v) ∧ addrOf v = c.regPll

theorem SwitchUnmoved.switchesAtPll {l : List Event} (h : SwitchUnmoved l) : SwitchesAtPll c l :=
  ⟨fun _ hk => Bool.noConfusion (h _ (List.mem_of_getElem? hk)), fun _ hk => Bool.noConfusion (h _ (List.mem_of_getElem? hk))⟩

theorem SwitchesAtPll.append {l m : List Event} (hl : SwitchesAtPll c l) (hm : SwitchesAtPll c m) : SwitchesAtPll c (l ++ m) where
  asserted k hk := by
    by_cases hlt : k < l.length
    · rw [List.getElem?_append_left hlt] at hk
      obtain ⟨v, hv, haddr⟩ := hl.asserted k hk
      exact ⟨v, by rw [List.getElem?_append_left (List.getElem?_eq_some_iff.mp hv).1, hv], haddr⟩
    · rw [List.getElem?_append_right (not_lt.mp hlt)] at hk
      obtain ⟨v, hv, haddr⟩ := hm.asserted _ hk
      exact ⟨v, by rw [List.getElem?_append_right (by omega), ← hv, Nat.sub_add_comm (not_lt.mp hlt)], haddr⟩
  released k hk := by
    by_cases hlt : k < l.length
    · rw [List.getElem?_append_left hlt] at hk
      obtain ⟨j, v, rfl, hv, haddr⟩ := hl.released k hk
      exact ⟨j, v, rfl, by rw [List.getElem?_append_left (by omega), hv], haddr⟩
    · rw [List.getElem?_append_right (not_lt.mp hlt)] at hk
      obtain ⟨j, v, hj, hv, haddr⟩ := hm.released _ hk
      exact ⟨l.length + j, v, by omega, by rw [List.getElem?_append_right (by omega), ← hv, Nat.add_sub_cancel_left], haddr⟩

theorem switchesAtPll_flatMap {g : RegAddr → List Event} {l : List RegAddr} (h : ∀ a ∈ l, SwitchesAtPll c (g a)) : SwitchesAtPll c (l.flatMap g) := by
  induction l with
  | nil => exact switchUnmoved_nil.switchesAtPll
  | cons a l ih =>
    rw [List.flatMap_cons]
    exact (h a List.mem_cons_self).append (ih fun b hb => h b (List.mem_cons_of_mem a hb))

section Pll

variable {v : Word} (hv : addrOf v = c.regPll)
include hv

theorem switchesAtPll_assert : SwitchesAtPll c [.setTr true, .busWrite v] where
  asserted
    | 0, _ => ⟨v, rfl, hv⟩
    | 1, h => by cases h
    | _ + 2, h => by cases h
  released
    | 0, h => by cases h
    | 1, h => by cases h
    | _ + 2, h => by cases h

theorem switchesAtPll_release : SwitchesAtPll c [.busWrite v, .setTr false] where
  asserted
    | 0, h => by cases h
    | 1, h => by cases h
    | _ + 2, h => by cases h
  released
    | 0, h => by cases h
    | 1, _ => ⟨0, v, rfl, rfl, hv⟩
    | _ + 2, h => by cases h

end Pll

/-- In the RX sequence the switch is released at the PLL, which is never skipped. -/
theorem switchesAtPll_rxSwitchEvents {v : Word} (hpll : imageAt s.stageRx c.regPll = some v) (hv : addrOf v = c.regPll) :
    SwitchesAtPll c (rxSwitchEvents c s) := by
  rw [rxSwitchEvents_eq]
  refine switchesAtPll_flatMap fun a _ => ?_
  by_cases ha : a = c.regPll
  · have hevents : rxRegisterEvents c s a = [.busWrite v, .setTr false] := by
      simp [rxRegisterEvents, ha, c.valid.pll_ne_clk, writeEvent, hpll]
    rw [hevents]
    exact switchesAtPll_release hv
  · have hunmoved : SwitchUnmoved (rxRegisterEvents c s a) := by
      rw [rxRegisterEvents, if_neg ha, List.append_nil]
      split
      · exact switchUnmoved_nil
      · exact switchUnmoved_writeEvent _ a
    exact hunmoved.switchesAtPll

/-- In the TX switch the PLL is written last, after the switch is asserted. -/
theorem switchesAtPll_txSwitchEvents {v : Word} (hpll : imageAt s.stageTx c.regPll = some v) (hv : addrOf v = c.regPll) :
    SwitchesAtPll c (txSwitchEvents c s) := by
  have hwrite : [c.regPll].flatMap (writeEvent s.stageTx) = [.busWrite v] := by simp [writeEvent, hpll]
  rw [txSwitchEvents_eq, hwrite, List.append_assoc]
  exact (switchesAtPll_flatMap fun a _ => (switchUnmoved_writeEvent _ a).switchesAtPll).append (switchesAtPll_assert hv)

/-- Off the steps that end or begin a service the switch moves in the two mode switches alone, where a good state has the PLL's word staged at its own address. -/
theorem newEvents_switchesAtPll (g : Good Config.actual s) (h : exec i s = .next t) : OutOfService i s t ∨ SwitchesAtPll Config.actual (newEvents s t) := by
  have gt := (exec_goodNext g h).good
  cases exec_switchCases g h with
  | still hs =>
    obtain ⟨l, hl, hun⟩ := hs.events
    exact .inr (newEvents_of_append hl ▸ hun.switchesAtPll)
  | out ho => exact .inl ho
  | toRx hr =>
    obtain ⟨u, l, m, hstage, hnew, hl, hm⟩ := hr.events
    obtain ⟨v, hv⟩ := Option.ne_none_iff_exists'.mp (gt.working.staged_rx (gt.spec.inv11.1 hr.mode) _ Config.actual.valid.pll_mem_rx)
    have hswitch := switchesAtPll_rxSwitchEvents (hstage ▸ hv) (gt.spec.inv9 _ v (.inl hv))
    exact .inr (hnew ▸ (hl.switchesAtPll.append hswitch).append hm.switchesAtPll)
  | toTx ht =>
    obtain ⟨u, l, hstage, hnew, hl⟩ := ht.events
    obtain ⟨hstaged, -⟩ := gt.working.staged_tx (gt.spec.inv11.2 ht.mode)
    obtain ⟨v, hv⟩ := Option.ne_none_iff_exists'.mp (hstaged _ (List.mem_of_getLast? Config.actual.valid.pll_last_tx))
    have hswitch := switchesAtPll_txSwitchEvents (hstage ▸ hv) (gt.spec.inv9 _ v (.inr (.inl hv)))
    exact .inr (hnew ▸ hl.switchesAtPll.append hswitch)

/-- Settles O39: the steps that end or begin a service assert nothing, and what they release is exempt. -/
theorem switchMovesAtThePllWrite : Obligations.SwitchMovesAtThePllWrite := by
  intro i s t g h
  obtain ho | hp := newEvents_switchesAtPll g h
  · refine ⟨fun k hk => absurd (List.mem_of_getElem? hk) ho.notAsserted, fun hon hoff hsoft k hk => ?_⟩
    rw [ho.silent hon hoff hsoft] at hk
    cases hk
  · exact ⟨hp.asserted, fun _ _ _ => hp.released⟩

end Sys2Proof.Proofs
end

section
/-! PROOFS. The scrambler's commands (R223, R224, R226, R227). -/

namespace Sys2Proof.Proofs

open Sys2Proof.Machine

/-! ### What `applySequence` answers -/

section Apply

variable {data seq : List Byte}

theorem applySequence_of_le (h : data.length ≤ seq.length) : applySequence data seq = .ok (List.zipWith (· ^^^ ·) data seq) := if_pos h

theorem applySequence_of_lt (h : seq.length < data.length) : applySequence data seq = .error .seqShort := if_neg (Nat.not_le.mpr h)

theorem length_zipWith_xor (h : data.length ≤ seq.length) : (List.zipWith (· ^^^ ·) data seq).length = data.length := by
  rw [List.length_zipWith, Nat.min_eq_left h]

theorem getD_zipWith_xor (h : data.length ≤ seq.length) {j : Nat} (hj : j < data.length) :
    (List.zipWith (· ^^^ ·) data seq).getD j 0 = data.getD j 0 ^^^ seq.getD j 0 := by
  rw [List.getD_eq_getElem _ _ (hj.trans_eq (length_zipWith_xor h).symm), List.getElem_zipWith, List.getD_eq_getElem _ _ hj,
    List.getD_eq_getElem _ _ (hj.trans_le h)]

theorem zipWith_xor_zipWith_xor (h : data.length ≤ seq.length) : List.zipWith (· ^^^ ·) (List.zipWith (· ^^^ ·) data seq) seq = data := by
  refine List.ext_getElem (by simpa using h) fun j _ _ => ?_
  rw [List.getElem_zipWith, List.getElem_zipWith, BitVec.xor_assoc, BitVec.xor_self, BitVec.xor_zero]

end Apply

/-- Settles O21: the first application keeps the length, so the second succeeds, and XOR cancels byte by byte. -/
theorem scramblerApplyIsSelfInverse : Obligations.ScramblerApplyIsSelfInverse := by
  intro data seq h
  have hback : (List.zipWith (· ^^^ ·) data seq).length ≤ seq.length := (length_zipWith_xor h).trans_le h
  refine ⟨_, applySequence_of_le h, ?_⟩
  rw [applySequence_of_le hback, zipWith_xor_zipWith_xor h]

/-! ### What the two commands answer -/

theorem exec_scrGenerate (len : BitVec 16) (s : State) :
    exec (.scrGenerate len) s = .next (answer .ok (some (.bytes (generateSequence len.toNat))) s) := rfl

theorem exec_scrApply (data seq : List Byte) (s : State) : exec (.scrApply data seq) s = finish (scrApplyCommand data seq s) := rfl

theorem scrApplyCommand_of_ok {data seq out : List Byte} (h : applySequence data seq = .ok out) (s : State) :
    scrApplyCommand data seq s = .ok (answer .ok (some (.bytes out)) s) := by
  rw [scrApplyCommand, h]

theorem scrApplyCommand_of_error {data seq : List Byte} {f : Fault} (h : applySequence data seq = .error f) (s : State) :
    scrApplyCommand data seq s = .error f := by
  rw [scrApplyCommand, h]

/-- Settles O20: SCR_APPLY ends as `applySequence` does. -/
theorem scramblerCommandsAnswerBytes : Obligations.ScramblerCommandsAnswerBytes := by
  intro len data seq s
  refine ⟨exec_scrGenerate len s, fun h => ?longEnough, fun h => ?short⟩
  case longEnough =>
    refine ⟨_, length_zipWith_xor h, fun j hj => getD_zipWith_xor h hj, ?_⟩
    rw [exec_scrApply, scrApplyCommand_of_ok (applySequence_of_le h), finish_ok, answer]
  case short => rw [exec_scrApply, scrApplyCommand_of_error (applySequence_of_lt h), finish_error]

end Sys2Proof.Proofs
end

section
/-! PROOFS. The scrambler's bit stream and how its bytes are packed (R220 to R222). -/

namespace Sys2Proof.Proofs

open Sys2Proof.Machine

/-! ### The register after one step -/

section Step

variable (x : ScramblerRegister)

theorem scramblerStep_output : (scramblerStep x).1 = x.getLsbD 0 := rfl

/-- The two feedback bits stand above the seven bits shifted down. -/
theorem getLsbD_scramblerStep (k : Nat) : (scramblerStep x).2.getLsbD k =
    if k < 7 then (x.extractLsb' 1 7).getLsbD k else (BitVec.ofBool (scramblerFeedback x) ++ BitVec.ofBool (scramblerFeedback x)).getLsbD (k - 7) :=
  BitVec.getLsbD_append

theorem getLsbD_scramblerStep_of_lt {k : Nat} (hk : k < 7) : (scramblerStep x).2.getLsbD k = x.getLsbD (k + 1) := by
  rw [getLsbD_scramblerStep, if_pos hk, BitVec.getLsbD_extractLsb', decide_eq_true hk, Bool.true_and, Nat.add_comm]

theorem getLsbD_scramblerStep_seven : (scramblerStep x).2.getLsbD 7 = scramblerFeedback x := by
  rw [getLsbD_scramblerStep, if_neg (by decide)]
  cases scramblerFeedback x <;> rfl

theorem getLsbD_scramblerStep_eight : (scramblerStep x).2.getLsbD 8 = scramblerFeedback x := by
  rw [getLsbD_scramblerStep, if_neg (by decide)]
  cases scramblerFeedback x <;> rfl

end Step

/-! ### The register is a window on the stream -/

theorem getLsbD_scramblerRegisterAt {k : Nat} (hk : k < 8) (n : Nat) : (scramblerRegisterAt n).getLsbD k = scramblerStream (n + k) := by
  induction k generalizing n with
  | zero => rfl
  | succ k ih =>
    calc (scramblerRegisterAt n).getLsbD (k + 1)
      _ = (scramblerRegisterAt (n + 1)).getLsbD k := (getLsbD_scramblerStep_of_lt _ (by omega)).symm
      _ = scramblerStream (n + 1 + k) := ih (by omega) (n + 1)
      _ = scramblerStream (n + (k + 1)) := by rw [Nat.add_right_comm, Nat.add_assoc]

/-- x[8] is x[7] in the seed and after every step: the feedback enters both. -/
theorem getLsbD_scramblerRegisterAt_eight (n : Nat) : (scramblerRegisterAt n).getLsbD 8 = (scramblerRegisterAt n).getLsbD 7 := by
  cases n with
  | zero => rfl
  | succ n => exact (getLsbD_scramblerStep_eight _).trans (getLsbD_scramblerStep_seven _).symm

/-- Eight output bits in a row determine the register before the first of them. -/
theorem scramblerRegisterAt_eq_of_window {m n : Nat} (h : ∀ k < 8, scramblerStream (m + k) = scramblerStream (n + k)) :
    scramblerRegisterAt m = scramblerRegisterAt n := by
  have hlow : ∀ k < 8, (scramblerRegisterAt m).getLsbD k = (scramblerRegisterAt n).getLsbD k := fun k hk => by
    rw [getLsbD_scramblerRegisterAt hk, getLsbD_scramblerRegisterAt hk, h k hk]
  refine BitVec.eq_of_getLsbD_eq fun k hk => ?_
  obtain hk | rfl : k < 8 ∨ k = 8 := by omega
  · exact hlow k hk
  · rw [getLsbD_scramblerRegisterAt_eight, getLsbD_scramblerRegisterAt_eight, hlow 7 (by decide)]

theorem scramblerStream_of_lt_eight {n : Nat} (hn : n < 8) : scramblerStream n = true := by
  have hseed : ∀ k < 8, scramblerSeed.getLsbD k = true := by decide
  calc scramblerStream n
    _ = scramblerStream (0 + n) := by rw [Nat.zero_add]
    _ = scramblerSeed.getLsbD n := (getLsbD_scramblerRegisterAt hn 0).symm
    _ = true := hseed n hn

theorem scramblerStream_add_eight (n : Nat) :
    scramblerStream (n + 8) = (scramblerStream (n + 7) ^^ scramblerStream (n + 5) ^^ scramblerStream (n + 3) ^^ scramblerStream n) := by
  have hfeedback : scramblerStream (n + 8) = scramblerFeedback (scramblerRegisterAt n) := by
    rw [show n + 8 = n + 1 + 7 by omega, ← getLsbD_scramblerRegisterAt (by decide)]
    exact getLsbD_scramblerStep_seven _
  simp only [hfeedback, scramblerFeedback, getLsbD_scramblerRegisterAt, Nat.reduceLT, Nat.add_zero]

/-! ### Packing into bytes -/

theorem scramblerBits_succ (n m : Nat) (b : Byte) : scramblerBits (n + 1) b (scramblerRegisterAt m) =
    scramblerBits n ((b <<< 1) ||| (BitVec.ofBool (scramblerStream m)).setWidth 8) (scramblerRegisterAt (m + 1)) := rfl

theorem scramblerBits_register (n m : Nat) (b : Byte) : (scramblerBits n b (scramblerRegisterAt m)).2 = scramblerRegisterAt (m + n) := by
  induction n generalizing m b with
  | zero => rfl
  | succ n ih => rw [scramblerBits_succ, ih, Nat.add_right_comm, Nat.add_assoc]

theorem getLsbD_pushBit (b : Byte) (out : Bool) {j : Nat} (hj : j < 8) :
    ((b <<< 1) ||| (BitVec.ofBool out).setWidth 8).getLsbD j = if j = 0 then out else b.getLsbD (j - 1) := by
  cases j with
  | zero => simp
  | succ j => simp [hj, BitVec.getLsbD_eq_getElem (Nat.lt_of_succ_lt hj)]

/-- The bits taken last stand lowest; above them stands what the byte held before. -/
theorem getLsbD_scramblerBits (n m : Nat) (b : Byte) {j : Nat} (hj : j < 8) :
    (scramblerBits n b (scramblerRegisterAt m)).1.getLsbD j = if j < n then scramblerStream (m + (n - 1 - j)) else b.getLsbD (j - n) := by
  induction n generalizing m b with
  | zero => rfl
  | succ n ih =>
    rw [scramblerBits_succ, ih]
    obtain hlt | rfl | hgt := Nat.lt_trichotomy j n
    · rw [if_pos hlt, if_pos (by omega), show m + 1 + (n - 1 - j) = m + (n + 1 - 1 - j) by omega]
    · rw [if_neg (by omega), if_pos (by omega), getLsbD_pushBit _ _ (by omega), if_pos (by omega), show m + (j + 1 - 1 - j) = m by omega]
    · rw [if_neg (by omega), if_neg (by omega), getLsbD_pushBit _ _ (by omega), if_neg (by omega), Nat.sub_sub]

/-- Byte `i` of every sequence long enough to have one (R222): the eight bits from s[8i] on. -/
def scramblerByteAt (i : Nat) : Byte := (scramblerBits 8 0 (scramblerRegisterAt (8 * i))).1

theorem getLsbD_scramblerByteAt (i : Nat) {k : Nat} (hk : k < 8) : (scramblerByteAt i).getLsbD (7 - k) = scramblerStream (8 * i + k) := by
  rw [scramblerByteAt, getLsbD_scramblerBits _ _ _ (by omega), if_pos (by omega), show 8 - 1 - (7 - k) = k by omega]

theorem scramblerBytes_succ (n i : Nat) : scramblerBytes (n + 1) (scramblerRegisterAt (8 * i)) =
    scramblerByteAt i :: scramblerBytes n (scramblerRegisterAt (8 * (i + 1))) := by
  rw [Nat.mul_succ, ← scramblerBits_register 8 (8 * i) 0]
  rfl

theorem scramblerBytes_eq_map (n i : Nat) : scramblerBytes n (scramblerRegisterAt (8 * i)) = (List.range' i n).map scramblerByteAt := by
  induction n generalizing i with
  | zero => rfl
  | succ n ih => rw [scramblerBytes_succ, ih, List.range'_succ, List.map_cons]

theorem generateSequence_eq_map (n : Nat) : generateSequence n = (List.range n).map scramblerByteAt := by
  rw [List.range_eq_range']
  exact scramblerBytes_eq_map n 0

theorem getD_generateSequence {n i : Nat} (h : i < n) : (generateSequence n).getD i 0 = scramblerByteAt i := by
  simp [generateSequence_eq_map, h]

/-- Settles O22: the register holds the next eight output bits, and a byte takes eight of them, the first highest. -/
theorem scramblerStreamAndPacking : Obligations.ScramblerStreamAndPacking := by
  refine ⟨?firstEight, scramblerStream_add_eight, ?packing⟩
  case firstEight => exact fun n => scramblerStream_of_lt_eight
  case packing =>
    intro n i k hi hk
    rw [getD_generateSequence hi, getLsbD_scramblerByteAt i hk]

end Sys2Proof.Proofs
end

section
/-! PROOFS. Length, initial parts and period of the scrambler sequence (R225). -/

namespace Sys2Proof.Proofs

open Sys2Proof.Machine

/-! ### The register's period -/

/-- The register part of a step, to iterate. -/
def nextRegister (x : ScramblerRegister) : ScramblerRegister := (scramblerStep x).2

theorem scramblerRegisterAt_eq_iterate (n : Nat) : scramblerRegisterAt n = nextRegister^[n] scramblerSeed := by
  induction n with
  | zero => rfl
  | succ n ih => rw [Function.iterate_succ_apply', ← ih, nextRegister, scramblerRegisterAt]

theorem isPeriodicPt_seed_iff (n : Nat) : Function.IsPeriodicPt nextRegister n scramblerSeed ↔ scramblerRegisterAt n = scramblerSeed := by
  rw [scramblerRegisterAt_eq_iterate, Function.IsPeriodicPt, Function.IsFixedPt]

theorem scramblerRegisterAt_255 : scramblerRegisterAt 255 = scramblerSeed := by decide +kernel

/-- 255 = 3 * 5 * 17 and none of 255 / 17, 255 / 5, 255 / 3 is a period, so no proper divisor of 255 is one. -/
theorem minimalPeriod_seed : Function.minimalPeriod nextRegister scramblerSeed = 255 := by
  have hmaximal : ∀ m < 255, m ∣ 255 → m ∣ 15 ∨ m ∣ 51 ∨ m ∣ 85 := by decide +kernel
  have hnot : ∀ n ∈ [15, 51, 85], scramblerRegisterAt n ≠ scramblerSeed := by decide +kernel
  have hnotDvd : ∀ n ∈ [15, 51, 85], ¬ Function.minimalPeriod nextRegister scramblerSeed ∣ n := fun n hn hdvd =>
    hnot n hn ((isPeriodicPt_seed_iff n).mp (Function.isPeriodicPt_iff_minimalPeriod_dvd.mpr hdvd))
  have hdvd := Function.isPeriodicPt_iff_minimalPeriod_dvd.mp ((isPeriodicPt_seed_iff 255).mpr scramblerRegisterAt_255)
  by_contra hne
  obtain h | h | h := hmaximal _ (lt_of_le_of_ne (Nat.le_of_dvd (by decide) hdvd) hne) hdvd
  · exact hnotDvd 15 (by simp) h
  · exact hnotDvd 51 (by simp) h
  · exact hnotDvd 85 (by simp) h

theorem scramblerRegisterAt_eq_seed_iff (n : Nat) : scramblerRegisterAt n = scramblerSeed ↔ 255 ∣ n := by
  rw [← isPeriodicPt_seed_iff, Function.isPeriodicPt_iff_minimalPeriod_dvd, minimalPeriod_seed]

theorem scramblerRegisterAt_periodic {p : Nat} (h : 255 ∣ p) : Function.Periodic scramblerRegisterAt p := fun n => by
  have hp := (scramblerRegisterAt_eq_seed_iff p).mpr h
  rw [scramblerRegisterAt_eq_iterate, Function.iterate_add_apply, ← scramblerRegisterAt_eq_iterate p, hp, scramblerRegisterAt_eq_iterate]

/-! ### The periods of the stream and of the bytes -/

theorem scramblerStream_periodic_iff (p : Nat) : Function.Periodic scramblerStream p ↔ 255 ∣ p := by
  constructor
  · intro h
    refine (scramblerRegisterAt_eq_seed_iff p).mp (scramblerRegisterAt_eq_of_window (n := 0) fun k _ => ?_)
    rw [Nat.add_comm, h, Nat.zero_add]
  · intro h n
    rw [scramblerStream, scramblerRegisterAt_periodic h, scramblerStream]

/-- A period of the bytes is 8 times as long in bits. -/
theorem scramblerStream_periodic_of_bytes {p : Nat} (h : Function.Periodic scramblerByteAt p) : Function.Periodic scramblerStream (8 * p) := fun n => by
  have hk : n % 8 < 8 := Nat.mod_lt n (by decide)
  calc scramblerStream (n + 8 * p)
    _ = scramblerStream (8 * (n / 8 + p) + n % 8) := by congr 1; omega
    _ = (scramblerByteAt (n / 8 + p)).getLsbD (7 - n % 8) := (getLsbD_scramblerByteAt _ hk).symm
    _ = (scramblerByteAt (n / 8)).getLsbD (7 - n % 8) := by rw [h]
    _ = scramblerStream (8 * (n / 8) + n % 8) := getLsbD_scramblerByteAt _ hk
    _ = scramblerStream n := by rw [Nat.div_add_mod]

theorem scramblerByteAt_periodic_iff (p : Nat) : Function.Periodic scramblerByteAt p ↔ 255 ∣ p := by
  constructor
  · intro h
    have hbits : 255 ∣ 8 * p := (scramblerStream_periodic_iff _).mp (scramblerStream_periodic_of_bytes h)
    exact Nat.Coprime.dvd_of_dvd_mul_left (by decide) hbits
  · intro h i
    rw [scramblerByteAt, Nat.mul_add, scramblerRegisterAt_periodic (h.mul_left 8), scramblerByteAt]

theorem exists_ne_of_lt_period {α : Type} {f : Nat → α} (hf : ∀ p, Function.Periodic f p ↔ 255 ∣ p) {p : Nat} (h0 : 0 < p) (h : p < 255) :
    ∃ n, f (n + p) ≠ f n :=
  not_forall.mp fun hp => Nat.not_dvd_of_pos_of_lt h0 h ((hf p).mp hp)

/-! ### The special bytes -/

theorem scramblerByteAt_zero : scramblerByteAt 0 = 0xFF#8 := by decide

theorem scramblerByteAt_255 : scramblerByteAt 255 = 0xFF#8 :=
  ((scramblerByteAt_periodic_iff 255).mpr (dvd_refl 255)).eq.trans scramblerByteAt_zero

/-- Byte 254 is the last eight bits of the stream's eighth period. -/
theorem scramblerByteAt_254 : scramblerByteAt 254 = 0x58#8 := by
  have hregister : scramblerRegisterAt (8 * 254) = scramblerRegisterAt 247 := scramblerRegisterAt_periodic (p := 7 * 255) (dvd_mul_left 255 7) 247
  have hbits : (scramblerBits 8 0 (scramblerRegisterAt 247)).1 = 0x58#8 := by decide +kernel
  rw [scramblerByteAt, hregister, hbits]

/-! ### Length and initial parts -/

theorem length_generateSequence (n : Nat) : (generateSequence n).length = n := by
  rw [generateSequence_eq_map, List.length_map, List.length_range]

theorem take_generateSequence {n m : Nat} (h : n ≤ m) : (generateSequence m).take n = generateSequence n := by
  rw [generateSequence_eq_map, generateSequence_eq_map, ← List.map_take, List.take_range, Nat.min_eq_left h]

/-- Settles O23: the periods of the bits and of the bytes are the multiples of 255. -/
theorem scramblerSequenceHasPeriod255 : Obligations.ScramblerSequenceHasPeriod255 := by
  refine ⟨length_generateSequence, fun _ _ => take_generateSequence, (scramblerStream_periodic_iff 255).mpr (dvd_refl 255),
    fun _ => exists_ne_of_lt_period scramblerStream_periodic_iff, ?bytesRepeat, ?noShorterBytePeriod, ?byte254, ?byte255, rfl, ?single⟩
  case bytesRepeat =>
    intro n i h
    rw [getD_generateSequence h, getD_generateSequence (by omega), (scramblerByteAt_periodic_iff 255).mpr (dvd_refl 255)]
  case noShorterBytePeriod =>
    intro p h0 h
    obtain ⟨i, hi⟩ := exists_ne_of_lt_period scramblerByteAt_periodic_iff h0 h
    refine ⟨i + p + 1, i, by omega, ?_⟩
    rwa [getD_generateSequence (by omega), getD_generateSequence (by omega)]
  case byte254 => rw [getD_generateSequence (by decide), scramblerByteAt_254]
  case byte255 => rw [getD_generateSequence (by decide), scramblerByteAt_255]
  case single => rw [generateSequence_eq_map, List.range_one, List.map_singleton, scramblerByteAt_zero]

end Sys2Proof.Proofs
end

section
/-! PROOFS. Frame types and the sync edge (R242, R243, R249, R250, R272, R341). -/

namespace Sys2Proof.Proofs

open Sys2Proof.Machine Sys2Proof.Safety

variable {c : Config} {s : State} {n : Nat}

/-! ### The two markers are complements of each other (R242, R243) -/

theorem byteBits_not (b : Byte) : byteBits (~~~b) = (byteBits b).map not := by
  simp [byteBits]

theorem popcount_add_popcount_not (b : Byte) : popcount b + popcount (~~~b) = 8 := by
  have hmap : ((byteBits b).map not).count true = (byteBits b).count false :=
    List.count_map_of_injective (byteBits b) not Bool.not_injective false
  rw [popcount, popcount, byteBits_not, hmap, List.count_true_add_count_false]
  rfl

/-- A byte differs from one marker where it agrees with the other. -/
theorem hd_markers (b : Byte) : hd b markerShort + hd b markerLong = 8 := by
  have hnot : b ^^^ markerLong = ~~~(b ^^^ markerShort) := by
    rw [show markerLong = ~~~markerShort from rfl, BitVec.not_xor_right]
  rw [hd, hd, hnot, popcount_add_popcount_not]

theorem classify_eq_short_iff (b : Byte) : classify b = .short ↔ hd b markerShort ≤ 3 := by
  have hsum := hd_markers b
  unfold classify
  split
  · exact iff_of_true rfl (by omega)
  · exact iff_of_false nofun (by omega)

/-! ### The type of a frame to be sent (R272) -/

theorem txType_short (h : n = c.frameLen .short) : txType c n = some .short := if_pos h

theorem txType_long (hs : n ≠ c.frameLen .short) (hl : n = c.frameLen .long) : txType c n = some .long := (if_neg hs).trans (if_pos hl)

theorem txType_none (hs : n ≠ c.frameLen .short) (hl : n ≠ c.frameLen .long) : txType c n = none := (if_neg hs).trans (if_neg hl)

/-- Settles O41: the distances to the two markers sum to 8, so the nearer one is at most 3 away; the two counts are over all bytes. -/
theorem frameTypesByMarkerAndLength : Obligations.FrameTypesByMarkerAndLength :=
  ⟨fun b => ⟨hd_markers b, classify_eq_short_iff b⟩, by decide +kernel, by decide +kernel, rfl, rfl,
    fun _ _ => ⟨txType_short, txType_long, txType_none⟩⟩

/-! ### The sync edge (R249, R250, R341) -/

theorem evSyncDetect_of_armed (h : s.syncArmed = true) : evSyncDetect c s = .ok (syncDetect c s) := by
  rw [evSyncDetect, h, takeEvent_true]

theorem evSyncDetect_of_not_armed (h : s.syncArmed = false) : evSyncDetect c s = .ok s := by
  rw [evSyncDetect, h, takeEvent_false]

theorem evByteClock_of_disabled (h : s.byteclkEn = false) (b : Byte) : evByteClock c b s = .ok s := by
  rw [evByteClock, h, takeEvent_false]

/-- Settles O42: an event runs its handler where its enable is 1, and is lost where it is 0. -/
theorem syncEdgeIsTakenOrLost : Obligations.SyncEdgeIsTakenOrLost := by
  intro s b
  refine ⟨fun harm => finish_eq_next.mpr (evSyncDetect_of_armed harm), fun harm => finish_eq_next.mpr (evSyncDetect_of_not_armed harm),
    fun hclk => finish_eq_next.mpr (evByteClock_of_disabled hclk b)⟩

end Sys2Proof.Proofs
end

section
/-! PROOFS. One byte of a frame in reception: what the byte clock does in each place (R251 to R255). -/

namespace Sys2Proof.Proofs

open Sys2Proof.Machine Sys2Proof.Safety

variable {c : Config} {s : State} {f : FrameBuffer} {b : Byte}

/-! ### The front buffer written twice, two events recorded -/

theorem setFrontBuf_setFrontBuf (f g : FrameBuffer) (s : State) : setFrontBuf g (setFrontBuf f s) = setFrontBuf g s := by
  simp [setFrontBuf]

theorem dropFront_setFrontBuf (f : FrameBuffer) (s : State) : dropFront (setFrontBuf f s) = setFrontBuf { f with progress := 0, size := 0 } s := by
  rw [dropFront, frontBuf_setFrontBuf, setFrontBuf_setFrontBuf]

/-- The end of a frame in reception: the byte and what became of the frame are recorded (R252, R255). -/
theorem setFrontBuf_emit_rearm (n : Notice) (b : Byte) (f : FrameBuffer) (k : Fin 2) (s : State) :
    rearm { setFrontBuf f (emit n (record (.rxIn b) s)) with front := k } = { s with
      buf := s.buf.set s.front f, front := k, rxErr := 0, byteclkEn := false, rxState := .idle, syncArmed := true
      history := s.history ++ [.rxIn b, .emit n] } := by
  simp [rearm, setFrontBuf, emit, record]

/-! ### The callsign bytes before the marker (R251, R252) -/

/-- The last byte before the marker, with too many errors: the frame is rejected and sync detection armed again. -/
theorem prefixByte_of_rejected (hlast : (frontBuf s).progress + 1 = c.rxPrefixLen)
    (htol : 2 * s.syncActive.tol < s.rxErr + hd b ((callsignTail c).getD (frontBuf s).progress 0)) :
    prefixByte c b s = rearm (setFrontBuf { frontBuf s with progress := 0, size := 0 } (emit .rxRejected s)) := by
  have hdrop := congrArg rearm (dropFront_setFrontBuf { frontBuf s with progress := (frontBuf s).progress + 1 } (emit .rxRejected s))
  exact (if_pos hlast).trans ((if_pos htol).trans hdrop)

/-- Any other byte before the marker is counted. -/
theorem prefixByte_of_counted (h : ¬ ((frontBuf s).progress + 1 = c.rxPrefixLen
      ∧ 2 * s.syncActive.tol < s.rxErr + hd b ((callsignTail c).getD (frontBuf s).progress 0))) :
    prefixByte c b s = { setFrontBuf { frontBuf s with progress := (frontBuf s).progress + 1 } s with
      rxErr := s.rxErr + hd b ((callsignTail c).getD (frontBuf s).progress 0), rxState := .preamble } := by
  by_cases hlast : (frontBuf s).progress + 1 = c.rxPrefixLen
  · exact prefixByte_within (not_lt.mp fun htol => h ⟨hlast, htol⟩)
  · exact if_neg hlast

/-- Settles O43: the place of the byte decides between the rule of the marker and that of the bytes before it, and the count at the last place whether the frame is rejected. -/
theorem prefixAndMarkerBytes : Obligations.PrefixAndMarkerBytes := by
  rintro b s _ hclk htx hrx hle rfl
  have hbyte := evByteClock_of_rx (c := Config.actual) ⟨hclk, htx⟩ b
  split
  · next hmarker => exact finish_eq_next.mpr (hbyte.trans (rxByte_of_marker (s := record (.rxIn b) s) hrx hmarker b))
  next hbefore =>
  have hprefix := hbyte.trans (rxByte_of_prefix (s := record (.rxIn b) s) hrx (lt_of_le_of_ne hle hbefore) b)
  split
  · next hreject =>
    rw [prefixByte_of_rejected (s := record (.rxIn b) s) hreject.1 hreject.2] at hprefix
    exact finish_eq_next.mpr (hprefix.trans (congrArg Except.ok (setFrontBuf_emit_rearm .rxRejected b _ s.front s)))
  · next hcount => exact finish_eq_next.mpr (hprefix.trans (congrArg Except.ok (prefixByte_of_counted (s := record (.rxIn b) s) hcount)))

/-! ### The body (R254, R255) -/

theorem evByteClock_storesByte (h : RxClocked s) (hrx : s.rxState = .body) (hfits : (frontBuf s).progress < c.maxPayload) (b : Byte) :
    evByteClock c b s = .ok (if (frontBuf s).progress + 1 = (frontBuf s).size
      then rxComplete (setFrontBuf (storeByte (frontBuf s) b) (record (.rxIn b) s))
      else setFrontBuf (storeByte (frontBuf s) b) (record (.rxIn b) s)) := by
  rw [evByteClock_of_rx h, rxByte, record_rxState, hrx]
  exact bodyByte_eq (s := record (.rxIn b) s) b hfits

/-- A complete frame is dropped while the back buffer is ready (R255). -/
theorem rxComplete_of_overrun (h : (backBuf s).ready = true) (f : FrameBuffer) :
    rxComplete (setFrontBuf f s) = rearm (setFrontBuf { f with progress := 0, size := 0 } (emit .rxOverrun s)) := by
  rw [rxComplete, backBuf_setFrontBuf, if_pos h]
  exact congrArg rearm (dropFront_setFrontBuf f (emit .rxOverrun s))

/-- Else it is marked ready and the buffers change roles (R255). -/
theorem rxComplete_of_swap (h : (backBuf s).ready = false) (f : FrameBuffer) :
    rxComplete (setFrontBuf f s) = rearm { setFrontBuf (markReady f) (emit .rxComplete s) with front := 1 - s.front } := by
  rw [rxComplete, backBuf_setFrontBuf, if_neg (by simp [h]), frontBuf_setFrontBuf]
  simp only [setFrontBuf_setFrontBuf]
  rfl

/-- Settles O44: the byte is stored at the progress index; whether it was the last one and whether the back buffer is ready decide the rest. -/
theorem bodyByteIsStoredAndCompletes : Obligations.BodyByteIsStoredAndCompletes := by
  intro b s hclk htx hrx hlt hmax hwf
  refine ⟨(storeByte (frontBuf s) b).payload, Memory.read_write hwf _ b, ?_⟩
  have hbyte := evByteClock_storesByte (c := Config.actual) ⟨hclk, htx⟩ hrx (hlt.trans_le hmax) b
  split
  · next hmore =>
    rw [if_neg hmore.ne] at hbyte
    exact finish_eq_next.mpr hbyte
  next hlast =>
  rw [if_pos (le_antisymm hlt (not_lt.mp hlast))] at hbyte
  split
  · next hready =>
    rw [rxComplete_of_overrun (s := record (.rxIn b) s) hready] at hbyte
    exact finish_eq_next.mpr (hbyte.trans (congrArg Except.ok (setFrontBuf_emit_rearm .rxOverrun b _ s.front s)))
  · next hfree =>
    rw [rxComplete_of_swap (s := record (.rxIn b) s) (Bool.eq_false_iff.mpr hfree)] at hbyte
    exact finish_eq_next.mpr (hbyte.trans (congrArg Except.ok (setFrontBuf_emit_rearm .rxComplete b _ (1 - s.front) s)))

end Sys2Proof.Proofs
end

section
/-! PROOFS. One byte clock of a transmission in each sub-state, and the completion (R256 to R259). -/

namespace Sys2Proof.Proofs

open Sys2Proof.Machine Sys2Proof.Safety

variable {c : Config} {s : State}

/-- The byte clock and the byte presented for it are recorded, and nothing else. -/
def presented (x : Byte) (s : State) : State := { s with history := s.history ++ [.byteClock, .txOut x] }

theorem txOut_byteClock (x : Byte) (s : State) : txOut x (record .byteClock s) = presented x s := by
  rw [eq_withHistory (history_txOut x s)]
  rfl

theorem evByteClock_of_tx (hclk : s.byteclkEn = true) (htx : s.txState ≠ .idle) (b : Byte) :
    evByteClock c b s = txByte c (record .byteClock s) := by
  rw [evByteClock, hclk, takeEvent_true, byteClockHandler, if_pos htx]

/-! ### Training symbols (R256) -/

/-- The front buffer with one training symbol fewer to send. -/
def oneTrainingLess (f : FrameBuffer) : FrameBuffer := { f with trainingRemaining := f.trainingRemaining - 1 }

theorem trainingByte_presented (h : 0 < (frontBuf s).trainingRemaining) : trainingByte c (record .byteClock s) =
    .ok (if (frontBuf s).trainingRemaining = 1
      then { setFrontBuf (oneTrainingLess (frontBuf s)) (presented c.trainingSymbol s) with txState := .preamble, preIdx := 0 }
      else setFrontBuf (oneTrainingLess (frontBuf s)) (presented c.trainingSymbol s)) := by
  have hfront : frontBuf (record .byteClock s) = frontBuf s := frontBuf_congr rfl rfl
  rw [trainingByte, hfront, if_neg h.ne', txOut_byteClock]
  rfl

/-! ### The preamble (R257) -/

theorem getElem?_txPreamble {t : FrameType} {k : Nat} (h : k ≤ c.callsign.length) :
    (txPreamble c t)[k]? = some ((c.callsign ++ [markerOf t]).getD k 0) := by
  have hlt : k < (txPreamble c t).length := by simp [txPreamble]; omega
  rw [List.getElem?_eq_getElem hlt, ← List.getD_eq_getElem _ 0 hlt]
  rfl

theorem preambleByte_presented (h : s.preIdx ≤ c.callsign.length) {x : Byte} (hx : (c.callsign ++ [markerOf s.ftype]).getD s.preIdx 0 = x) :
    preambleByte c (record .byteClock s) = .ok (if s.preIdx = c.callsign.length
      then { presented x s with preIdx := s.preIdx + 1, txState := .body } else { presented x s with preIdx := s.preIdx + 1 }) := by
  have hbyte : (txPreamble c (record .byteClock s).ftype)[(record .byteClock s).preIdx]? = some x := hx ▸ getElem?_txPreamble h
  rw [preambleByte, hbyte]
  simp only [record_preIdx, Nat.add_right_cancel_iff, txOut_byteClock]

/-! ### The body and the completion (R258, R259) -/

theorem txBodyByte_of_cell {x : Byte} (hlt : (frontBuf s).progress < (frontBuf s).size) (hmax : (frontBuf s).size ≤ c.maxPayload)
    (hx : Memory.read (frontBuf s).payload (frontBuf s).progress = some x) : txBodyByte c (record .byteClock s) =
    .ok (setFrontBuf { frontBuf s with progress := (frontBuf s).progress + 1 } (presented x s)) := by
  have hfront : frontBuf (record .byteClock s) = frontBuf s := frontBuf_congr rfl rfl
  have hread : readPayload c (frontBuf s).payload (frontBuf s).progress = .ok x := readPayload_ok.mpr ⟨hlt.trans_le hmax, hx⟩
  rw [txBodyByte, hfront, if_pos hlt, hread, ← txOut_byteClock]

/-- Settles O45: the sub-state gives the byte presented, and the counters whether the sub-state is left. -/
theorem transmitBytesInEachSubState : Obligations.TransmitBytesInEachSubState := by
  intro b s hclk
  have hbyte : s.txState ≠ .idle → evByteClock Config.actual b s = _ := fun htx => evByteClock_of_tx hclk htx b
  refine ⟨fun htx hpos => ?training, fun htx hpre => ?preamble, fun x htx hlt hmax hx => ?body⟩
  all_goals
    specialize hbyte (by simp [htx])
    rw [txByte, record_txState, htx] at hbyte
  case training =>
    replace hbyte := hbyte.trans (trainingByte_presented hpos)
    by_cases hlast : (frontBuf s).trainingRemaining = 1
    · rw [if_pos hlast] at hbyte
      rw [if_pos hlast, if_pos hlast]
      exact finish_eq_next.mpr hbyte
    · rw [if_neg hlast] at hbyte
      rw [if_neg hlast, if_neg hlast, ← htx]
      exact finish_eq_next.mpr hbyte
  case preamble =>
    replace hbyte := hbyte.trans (preambleByte_presented hpre rfl)
    by_cases hlast : s.preIdx = Config.actual.callsign.length
    · rw [if_pos hlast] at hbyte ⊢
      exact finish_eq_next.mpr hbyte
    · rw [if_neg hlast] at hbyte ⊢
      rw [← htx]
      exact finish_eq_next.mpr hbyte
  case body => exact finish_eq_next.mpr (hbyte.trans (txBodyByte_of_cell hlt hmax hx))

/-- The byte clock after the last body byte switches to RX and ends the transmission (R259). -/
theorem txBodyByte_of_allSent (hsent : (frontBuf s).progress = (frontBuf s).size) (hstaged : Staged s.stageRx c.rxSeq) :
    txBodyByte c s = .ok (afterTransmission c s) := by
  have hswitch := rxModeSwitch_eq (c := c) (s := { s with byteclkEn := false, txState := .idle }) hstaged
  rw [txBodyByte, if_neg hsent.not_lt, if_pos hsent, txComplete, hswitch]
  rfl

/-- Settles O46: with all bytes sent the byte clock ends in the state after a transmission. -/
theorem transmitCompletionReturnsToReceiving : Obligations.TransmitCompletionReturnsToReceiving := by
  intro b s hclk htx hsent hstaged
  have hbyte := evByteClock_of_tx (c := Config.actual) hclk (by simp [htx]) b
  rw [txByte, record_txState, htx] at hbyte
  exact finish_eq_next.mpr (hbyte.trans (txBodyByte_of_allSent (s := record .byteClock s) hsent hstaged))

end Sys2Proof.Proofs
end

section
/-! PROOFS. Carrier sense and the quarantine, and where TX_START is turned away (R270, R271, R335). -/

namespace Sys2Proof.Proofs

open Sys2Proof.Machine Sys2Proof.Safety

variable {c : Config} {s t u : State}

/-! ### CS_CHECK (R270) -/

theorem csCheckCommand_of_off (hoff : s.mode = .off) (c : Config) : csCheckCommand c s = .error .busOff := if_pos (not_busOk_iff.mpr hoff)

/-- On a powered chip the verdict of carrier sense is the answer. -/
theorem csCheckCommand_of_verdict {allowed : Bool} (hon : s.mode ≠ .off) (h : transmitAllowed c s = (allowed, t)) :
    csCheckCommand c s = .ok (answer (if allowed then .ok else .denied) (some (.bool allowed)) t) := by
  rw [csCheckCommand, if_neg (not_not.mpr (busOk_iff.mpr hon)), h]

theorem csCheckCommand_of_above (hon : s.mode ≠ .off) (h : s.cfg.csThreshold < sensedRssi c s) :
    csCheckCommand c s = .ok (answer .denied (some (.bool false)) (denied c c.quarantineMax s)) :=
  csCheckCommand_of_verdict hon (transmitAllowed_of_above h)

theorem csCheckCommand_of_quarantine (hon : s.mode ≠ .off) (h : ¬ s.cfg.csThreshold < sensedRssi c s) (hq : 0 < s.quarantine) :
    csCheckCommand c s = .ok (answer .denied (some (.bool false)) (denied c (s.quarantine - 1) s)) :=
  csCheckCommand_of_verdict hon (transmitAllowed_of_quarantine h hq)

theorem csCheckCommand_of_clear (hon : s.mode ≠ .off) (h : ¬ s.cfg.csThreshold < sensedRssi c s) (hq : ¬ 0 < s.quarantine) :
    csCheckCommand c s = .ok (answer .ok (some (.bool true)) (sensed c s)) :=
  csCheckCommand_of_verdict hon (transmitAllowed_of_clear h hq)

/-- Settles O51: the reading, then the counter decide; in Off nothing is read. -/
theorem carrierSenseCheckRules : Obligations.CarrierSenseCheckRules := by
  refine fun s => ⟨?_, fun hoff => finish_eq_fault.mpr (csCheckCommand_of_off hoff _)⟩
  rintro hon _ rfl
  split
  · next habove => exact finish_eq_next.mpr (csCheckCommand_of_above hon habove)
  next hlow =>
  split
  · next hq => exact finish_eq_next.mpr (csCheckCommand_of_quarantine hon hlow hq)
  · next hq => exact finish_eq_next.mpr (csCheckCommand_of_clear hon hlow hq)

/-! ### The quarantine (R270) -/

/-- From `s`, `k` checks were made and denied, each counting the quarantine down. -/
structure CountedDown (k : Nat) (s t : State) : Prop where
  mode : t.mode = s.mode
  cfg : t.cfg = s.cfg
  draws : t.drawCount = s.drawCount + k
  quarantine : t.quarantine = s.quarantine - k
  reply : 0 < k → t.reply = some ⟨.denied, some (.bool false)⟩

/-- The check that comes after `k` of them takes draw number `k` from `s` on. -/
theorem CountedDown.not_above {k : Nat} (h : CountedDown k s t) (hlow : rssiOf c (c.draws.readback (s.drawCount + k) c.selRssi) ≤ s.cfg.csThreshold) :
    ¬ t.cfg.csThreshold < sensedRssi c t := by
  rw [sensedRssi, h.draws, h.cfg]
  exact not_lt.mpr hlow

theorem CountedDown.next {k : Nat} (h : CountedDown k s t) (c : Config) :
    CountedDown (k + 1) s (answer .denied (some (.bool false)) (denied c (t.quarantine - 1) t)) where
  mode := h.mode
  cfg := h.cfg
  draws := congrArg (· + 1) h.draws
  quarantine := congrArg (· - 1) h.quarantine
  reply _ := rfl

theorem execAll_snoc {l : List Instr} {i : Instr} (hl : execAll l s = .next t) (hi : exec i t = .next u) : execAll (l ++ [i]) s = .next u := by
  rw [execAll_append hl, execAll_cons hi, execAll]

/-- As many checks at or below the threshold as the counter holds are all denied. -/
theorem execAll_countsDown (hon : s.mode ≠ .off) {k : Nat} (hk : k ≤ s.quarantine)
    (hlow : ∀ j < k, rssiOf Config.actual (Config.actual.draws.readback (s.drawCount + j) Config.actual.selRssi) ≤ s.cfg.csThreshold) :
    ∃ t, execAll (List.replicate k .csCheck) s = .next t ∧ CountedDown k s t := by
  induction k with
  | zero => exact ⟨s, rfl, rfl, rfl, rfl, rfl, nofun⟩
  | succ k ih =>
    obtain ⟨t, ht, hcount⟩ := ih (by omega) fun j hj => hlow j (by omega)
    have hq : 0 < t.quarantine := by
      have hcounter := hcount.quarantine
      omega
    have hcheck := csCheckCommand_of_quarantine (hcount.mode ▸ hon) (hcount.not_above (hlow k (by omega))) hq
    refine ⟨_, ?_, hcount.next Config.actual⟩
    rw [List.replicate_succ']
    exact execAll_snoc ht (finish_eq_next.mpr hcheck)

/-- Settles O52: the counter's checks count it down to 0, where the next one is allowed. -/
theorem quarantineLastsExactlyItsCount : Obligations.QuarantineLastsExactlyItsCount := by
  intro s hon hlow
  refine ⟨fun k hk => ?denied, ?allowed⟩
  case denied =>
    obtain ⟨t, ht, hcount⟩ := execAll_countsDown hon hk fun j hj => hlow j (by omega)
    exact ⟨t, ht, hcount.quarantine, hcount.reply⟩
  case allowed =>
    obtain ⟨t, ht, hcount⟩ := execAll_countsDown hon le_rfl fun j hj => hlow j hj.le
    have hzero : t.quarantine = 0 := hcount.quarantine.trans (Nat.sub_self _)
    have hcheck := csCheckCommand_of_clear (hcount.mode ▸ hon) (hcount.not_above (hlow _ le_rfl)) (by omega)
    rw [List.replicate_succ']
    exact ⟨_, execAll_snoc ht (finish_eq_next.mpr hcheck), hzero, rfl⟩

/-! ### TX_START turned away (R271, R335) -/

/-- Settles O54: in Off the bus cannot be used; else a frame in progress or another mode than Receiving is BUSY. -/
theorem txStartTurnedAwayEarly : Obligations.TxStartTurnedAwayEarly := by
  refine fun s => ⟨fun hoff => finish_eq_fault.mpr (txStartCommand_of_off hoff _), fun hon hbusy => ?_⟩
  refine finish_eq_next.mpr (txStartCommand_of_busy hon ?_)
  rintro ⟨hmode, hidle⟩
  exact hbusy.elim (absurd hmode) (not_midFrame_iff.mpr (betweenFrames_iff.mpr hidle))

end Sys2Proof.Proofs
end

section
/-! PROOFS. The frame in progress: what the commands leave of it (R82, R276). -/

namespace Sys2Proof.Proofs

open Sys2Proof.Machine Sys2Proof.Safety

variable {c : Config} {s t : State} {r : Except Fault State} {i : Instr}

/-- What belongs to the frame in progress: the sub-states, the front buffer, the mode, the byte clock and the working registers. -/
def framePart (s : State) : RxState × TxState × FrameBuffer × Mode × Bool × Nat × FrameType × Nat :=
  (s.rxState, s.txState, frontBuf s, s.mode, s.byteclkEn, s.rxErr, s.ftype, s.preIdx)

theorem framePart_setBackBuf (b : FrameBuffer) (s : State) : framePart (setBackBuf b s) = framePart s := by
  rw [framePart, frontBuf_setBackBuf]
  rfl

theorem framePart_of_quiet (h : Quiet s t) : framePart t = framePart s := by
  obtain ⟨_, _, _, rfl⟩ := h
  rfl

/-- Where the outcome is a state, the frame in progress is what it was. -/
def KeepsFrame (s : State) : Except Fault State → Prop
  | .ok t => framePart t = framePart s
  | .error _ => True

theorem KeepsFrame.ok (h : KeepsFrame s r) (hr : r = .ok t) : framePart t = framePart s := by
  subst hr
  exact h

theorem KeepsFrame.thenOk (h : KeepsFrame s r) : KeepsFrame s (thenOk r) := by
  cases r with
  | ok t => exact h
  | error f => trivial

/-! ### Configuration, sync word and AFC (R174 to R176, R180 to R182, R300) -/

theorem configureRx_framePart {rate h : Rat} {freq ifbw : Nat} {ok : Bool} (he : configureRx c rate h freq ifbw s = .ok (ok, t)) :
    framePart t = framePart s := by
  unfold configureRx at he
  split at he <;> cases he <;> rfl

theorem configureTx_framePart {rate h : Rat} {freq : Nat} {ok : Bool} (he : configureTx c rate h freq s = .ok (ok, t)) :
    framePart t = framePart s := by
  unfold configureTx at he
  split at he <;> cases he <;> rfl

theorem configureRxCommand_keepsFrame (c : Config) (p q : RatArg) (freq : Word) (ifbw : Byte) (s : State) :
    KeepsFrame s (configureRxCommand c p q freq ifbw s) := by
  unfold configureRxCommand
  split
  · rfl
  · split
    · trivial
    · next he =>
      have hkept := configureRx_framePart he
      exact hkept

theorem configureTxCommand_keepsFrame (c : Config) (p q : RatArg) (freq : Word) (s : State) : KeepsFrame s (configureTxCommand c p q freq s) := by
  unfold configureTxCommand
  split
  · rfl
  · split
    · trivial
    · next he =>
      have hkept := configureTx_framePart he
      exact hkept

theorem framePart_writeSys (l : List (RegAddr × Nat)) (s : State) : framePart (writeSys l s) = framePart s := by
  rw [writeSys_eq]
  rfl

theorem setSyncWord_keepsFrame (c : Config) (word len tol : Nat) (s : State) : KeepsFrame s (setSyncWord c word len tol s) := by
  unfold setSyncWord
  split
  · trivial
  · exact framePart_writeSys _ s

theorem enableAfc_keepsFrame (c : Config) (range ki kp : Nat) (s : State) : KeepsFrame s (enableAfc c range ki kp s) := by
  unfold enableAfc
  split
  · trivial
  · exact framePart_writeSys _ s

theorem disableAfc_keepsFrame (c : Config) (s : State) : KeepsFrame s (disableAfc c s) := by
  unfold disableAfc
  split
  · trivial
  · exact framePart_writeSys _ s

theorem configSetCommand_keepsFrame (id : Byte) (v : ConfigArg) (s : State) : KeepsFrame s (configSetCommand id v s) := by
  unfold configSetCommand
  split <;> rfl

/-! ### The drain and carrier sense (R265, R266, R270) -/

theorem drainReadings_framePart (c : Config) (s : State) : framePart (drainReadings c s).2.2 = framePart s := by
  obtain ⟨_, _, _, _, hd⟩ := drainReadings_frame c s
  rw [hd]
  rfl

/-- The drain works on the back buffer; the frame in progress is in the front one (R82). -/
theorem rxDrainBeginCommand_keepsFrame (c : Config) (s : State) : KeepsFrame s (rxDrainBeginCommand c s) := by
  have hkept := drainReadings_framePart c s
  unfold rxDrainBeginCommand
  generalize drainReadings c s = v at hkept ⊢
  obtain ⟨rssi, freq, s1⟩ := v
  split
  · rfl
  · split
    · rfl
    · simp only
      split
      · trivial
      · exact (framePart_setBackBuf _ s1).trans hkept

theorem rxDrainEndCommand_keepsFrame (s : State) : KeepsFrame s (rxDrainEndCommand s) := by
  unfold rxDrainEndCommand
  split
  · exact framePart_setBackBuf _ s
  · rfl

theorem csCheckCommand_keepsFrame (c : Config) (s : State) : KeepsFrame s (csCheckCommand c s) := by
  unfold csCheckCommand
  rw [transmitAllowed_eq]
  split
  · trivial
  · rfl

/-! ### Mid-frame -/

theorem not_midFrame_of_powerOn {xtal : Word} (h : powerOnCommand c xtal s = .ok t) : ¬ midFrame s := by
  intro hm
  by_cases hx : xtal = 0#32
  · subst hx
    cases h.symm.trans (powerOnCommand_of_zero c s)
  · cases h.symm.trans (powerOnCommand_of_midFrame hx hm c)

theorem not_midFrame_of_reconfigure (h : reconfigureCommand c s = .ok t) : ¬ midFrame s := by
  intro hm
  by_cases hoff : s.mode = .off
  · cases h.symm.trans (reconfigureCommand_of_off hoff c)
  · cases h.symm.trans (reconfigureCommand_of_midFrame hoff hm c)

/-- Mid-frame TX_START answers BUSY (R271). -/
theorem busy_of_txStart_midFrame (hm : midFrame s) (h : txStartCommand c s = .ok t) : t = answer .busy none s := by
  have hon : s.mode ≠ .off := fun hoff => by cases h.symm.trans (txStartCommand_of_off hoff c)
  have hbusy := txStartCommand_of_busy (c := c) hon fun ⟨_, hidle⟩ => not_midFrame_iff.mpr (betweenFrames_iff.mpr hidle) hm
  exact Except.ok.inj (h.symm.trans hbusy)

/-- Mid-frame the commands that would touch the frame fault or answer BUSY, and a sync edge is lost, sync detection not being armed. -/
theorem exec_framePart (hm : midFrame s) (harm : s.syncArmed = false) (h : exec i s = .next t) (hoff : i ≠ .powerOff) (hsoft : i ≠ .softReset)
    (hpower : i ≠ .evPowerUpReset) (hbyte : ∀ b, i ≠ .evByteClock b) : framePart t = framePart s := by
  have hkept : ∀ {r}, KeepsFrame s r → finish r = .next t → framePart t = framePart s := fun hr h => hr.ok (finish_eq_next.mp h)
  cases i with
  | planClocks | readRssi | readAfcOffset | readTemperature | readSupplyVoltage | readChipVersion | regWrite | regRead | scrGenerate | scrApply
  | configGet | serialGet | fwRevGet => exact framePart_of_quiet (quiet_of_isQuery rfl h)
  | configureRx p q freq ifbw => exact hkept (configureRxCommand_keepsFrame _ p q freq ifbw s) h
  | configureTx p q freq => exact hkept (configureTxCommand_keepsFrame _ p q freq s) h
  | setSyncWord => exact hkept (setSyncWord_keepsFrame _ _ _ _ s).thenOk h
  | enableAfc => exact hkept (enableAfc_keepsFrame _ _ _ _ s).thenOk h
  | disableAfc => exact hkept (disableAfc_keepsFrame _ s).thenOk h
  | configSet id v => exact hkept (configSetCommand_keepsFrame id v s) h
  | csCheck => exact hkept (csCheckCommand_keepsFrame _ s) h
  | rxDrainBegin => exact hkept (rxDrainBeginCommand_keepsFrame _ s) h
  | rxDrainEnd => exact hkept (rxDrainEndCommand_keepsFrame s) h
  | serialSet v => cases h; rfl
  | powerOn => exact absurd hm (not_midFrame_of_powerOn (finish_eq_next.mp h))
  | setRxMode =>
    obtain ⟨u, hu, -⟩ := thenOk_eq_ok.mp (finish_eq_next.mp h)
    obtain ⟨-, hbetween, -⟩ := setRxMode_eq_ok hu
    exact absurd hm hbetween
  | setTxMode =>
    obtain ⟨u, hu, -⟩ := thenOk_eq_ok.mp (finish_eq_next.mp h)
    obtain ⟨-, hbetween, -⟩ := setTxMode_eq_ok hu
    exact absurd hm hbetween
  | reconfigure => exact absurd hm (not_midFrame_of_reconfigure (finish_eq_next.mp h))
  | txStart =>
    obtain rfl := busy_of_txStart_midFrame hm (finish_eq_next.mp h)
    rfl
  | evSyncDetect =>
    obtain rfl := Except.ok.inj ((evSyncDetect_of_not_armed harm).symm.trans (finish_eq_next.mp h))
    rfl
  | bootloaderEnter => cases h
  | powerOff => exact absurd rfl hoff
  | softReset => exact absurd rfl hsoft
  | evPowerUpReset => exact absurd rfl hpower
  | evByteClock b => exact absurd rfl (hbyte b)

/-- Settles O37: mid-frame in a good state sync detection is not armed, so that every step but the four named keeps the frame. -/
theorem noCommandCancelsAFrame : Obligations.NoCommandCancelsAFrame := by
  intro i s t g hm h hoff hsoft hpower hbyte
  have hkept := exec_framePart hm (g.enables_midFrame hm).2 h hoff hsoft hpower hbyte
  simpa only [framePart, Prod.mk.injEq] using hkept

end Sys2Proof.Proofs
end

section
/-! PROOFS. The host configuration interface: the CFG fields by id, the identity commands and BOOTLOADER_ENTER (R35, R109, R300 to R305, R309). -/

namespace Sys2Proof.Proofs

open Sys2Proof.Machine

variable {r r' : ConfigRecord} {id : Byte} {x : ConfigValue} {s : State}

/-! ### The CFG fields are the entries of the table of R35 -/

theorem configTable_length (r : ConfigRecord) : (configTable r).length = 17 := rfl

theorem configField_eq_configTable (r : ConfigRecord) (id : Byte) : configField r id = (configTable r)[id.toNat]? := by
  unfold configField
  split
  case h_18 =>
    simp only [imp_false] at *
    exact (List.getElem?_eq_none (by rw [configTable_length]; omega)).symm
  all_goals next hid => rw [hid]; rfl

theorem configField_eq_none_iff : configField r id = none ↔ 0x10#8 < id := by
  rw [configField_eq_configTable, List.getElem?_eq_none_iff, configTable_length]
  bv_omega

/-! ### CONFIG_SET writes one entry (R104, R109, R300) -/

theorem setNatField_stores {w : Word} (h : setNatField r id w = some r') : configTable r' = (configTable r).set id.toNat (.nat w.toNat) := by
  unfold setNatField at h
  split at h <;> cases h
  all_goals next hid => rw [hid]; rfl

theorem setRatField_stores {q : RatArg} (h : setRatField r id q = some r') : configTable r' = (configTable r).set id.toNat (.rat (ratValue q)) := by
  unfold setRatField at h
  split at h
  · cases h
  · split at h <;> cases h
    all_goals next hid => rw [hid]; rfl

theorem setByteField_stores {b : Byte} (h : setByteField r id b = some r') : configTable r' = (configTable r).set id.toNat (.bool (afcEnableBit b)) := by
  unfold setByteField at h
  split at h <;> cases h
  next hid => rw [hid]; rfl

theorem configWith_stores {v : ConfigArg} (h : configWith r id v = some r') :
    ∃ x, configValueOf v = some x ∧ configTable r' = (configTable r).set id.toNat x := by
  cases v with
  | absent => cases h
  | u8 b => exact ⟨_, rfl, setByteField_stores h⟩
  | u32 w => exact ⟨_, rfl, setNatField_stores h⟩
  | rat q => exact ⟨_, rfl, setRatField_stores h⟩

theorem configField_of_stored (hid : id ≤ 0x10#8) (h : configTable r' = (configTable r).set id.toNat x) : configField r' id = some x := by
  rw [configField_eq_configTable, h, List.getElem?_set_self]
  rw [configTable_length]
  bv_omega

theorem configField_of_stored_ne {other : Byte} (hne : other ≠ id) (h : configTable r' = (configTable r).set id.toNat x) :
    configField r' other = configField r other := by
  rw [configField_eq_configTable, configField_eq_configTable, h, List.getElem?_set_ne]
  exact fun he => hne (BitVec.eq_of_toNat_eq he.symm)

/-! ### Where CONFIG_SET is INVALID (R104, R109, R300) -/

/-- Which ids take a u32 and which a RAT, in numbers: the form in which `omega` compares them with the branches of the two setters. -/
theorem wellFormed_u32_iff {w : Word} :
    (ConfigArg.u32 w).wellFormed id = true ↔ id.toNat < 17 ∧ id.toNat ≠ 2 ∧ id.toNat ≠ 3 ∧ id.toNat ≠ 4 ∧ id.toNat ≠ 6 := by
  simp only [ConfigArg.wellFormed, decide_eq_true_eq]
  bv_omega

theorem wellFormed_rat_iff {q : RatArg} :
    (ConfigArg.rat q).wellFormed id = true ↔ q.wellFormed = true ∧ (id.toNat = 2 ∨ id.toNat = 3 ∨ id.toNat = 4) := by
  simp only [ConfigArg.wellFormed, Bool.and_eq_true, decide_eq_true_eq, and_comm (b := q.wellFormed = true)]
  bv_omega

theorem setNatField_eq_none_iff {w : Word} : setNatField r id w = none ↔ (ConfigArg.u32 w).wellFormed id = false := by
  rw [← Bool.not_eq_true, wellFormed_u32_iff, setNatField]
  split <;> simp only [imp_false, reduceCtorEq, true_iff, false_iff] at * <;> omega

theorem setRatField_eq_none_iff {q : RatArg} : setRatField r id q = none ↔ (ConfigArg.rat q).wellFormed id = false := by
  rw [← Bool.not_eq_true, wellFormed_rat_iff, setRatField, ratMalformed_eq]
  cases q.wellFormed with
  | false => simp
  | true =>
    simp only [Bool.not_true, Bool.false_eq_true, if_false, true_and]
    split <;> simp only [imp_false, reduceCtorEq, true_iff, false_iff] at * <;> omega

theorem setByteField_eq_none_iff {b : Byte} : setByteField r id b = none ↔ (ConfigArg.u8 b).wellFormed id = false := by
  simp [setByteField, ConfigArg.wellFormed]

/-- After an id above 0x10 no value field follows. -/
theorem not_wellFormed_above {v : ConfigArg} (hv : v ≠ .absent) (hid : 0x10#8 < id) : v.wellFormed id = false := by
  refine Bool.eq_false_iff.mpr fun hwf => ?_
  cases v with
  | absent => exact hv rfl
  | u8 b =>
    obtain rfl : id = 0x06#8 := of_decide_eq_true hwf
    exact absurd hid (by decide)
  | u32 w =>
    obtain ⟨hlt, -⟩ := wellFormed_u32_iff.mp hwf
    bv_omega
  | rat q =>
    obtain ⟨-, heq⟩ := wellFormed_rat_iff.mp hwf
    bv_omega

theorem configWith_eq_none_iff {v : ConfigArg} : configWith r id v = none ↔ v.wellFormed id = false ∨ 0x10#8 < id := by
  have hvalue : v ≠ .absent → (v.wellFormed id = false ∨ 0x10#8 < id ↔ v.wellFormed id = false) :=
    fun hv => or_iff_left_of_imp (not_wellFormed_above hv)
  cases v with
  | absent => exact iff_of_true rfl ((em _).symm.imp_left decide_eq_false)
  | u8 b => exact setByteField_eq_none_iff.trans (hvalue nofun).symm
  | u32 w => exact setNatField_eq_none_iff.trans (hvalue nofun).symm
  | rat q => exact setRatField_eq_none_iff.trans (hvalue nofun).symm

/-! ### What the two commands answer (R300, R301) -/

theorem exec_configSet_of_some {v : ConfigArg} (h : configWith s.cfg id v = some r) : exec (.configSet id v) s = .next (answer .ok none { s with cfg := r }) := by
  refine finish_eq_next.mpr ?_
  simp only [configSetCommand, h]

theorem exec_configSet_of_none {v : ConfigArg} (h : configWith s.cfg id v = none) : exec (.configSet id v) s = .next (answerInvalid s) := by
  refine finish_eq_next.mpr ?_
  simp only [configSetCommand, h]

theorem exec_configGet_of_some (h : configField s.cfg id = some x) : exec (.configGet id) s = .next (answer .ok (some (.value x)) s) := by
  have hid : id ≠ 0x11#8 := by
    rintro rfl
    cases h
  refine finish_eq_next.mpr ?_
  simp only [configGetCommand, if_neg hid, h]

theorem exec_configGet_of_none (hid : id ≠ 0x11#8) (h : configField s.cfg id = none) : exec (.configGet id) s = .next (answerInvalid s) := by
  refine finish_eq_next.mpr ?_
  simp only [configGetCommand, if_neg hid, h]

theorem exec_configGet_status (s : State) : exec (.configGet 0x11#8) s = .next (answer .ok (some (.value (.byte (statusByte s)))) s) :=
  finish_eq_next.mpr (if_pos rfl : configGetCommand 0x11#8 s = .ok _)

theorem statusByte_eq (s : State) : statusByte s = BitVec.ofNat 8 (s.planErrorRx.toNat + 2 * s.planErrorTx.toNat) := by
  unfold statusByte
  cases s.planErrorRx <;> cases s.planErrorTx <;> rfl

/-- Settles O13: CONFIG_SET writes the id's entry of the table of R35 and no other, and CONFIG_GET reads that table. -/
theorem configSetThenGetReturnsTheValue : Obligations.ConfigSetThenGetReturnsTheValue := by
  intro id v s
  refine ⟨fun hwf hid => ?stored, fun hbad => ?rejected⟩
  case stored =>
    have hsome : configWith s.cfg id v ≠ none := by simpa [configWith_eq_none_iff, hwf] using hid
    obtain ⟨r, hr⟩ := Option.ne_none_iff_exists'.mp hsome
    obtain ⟨x, hx, hstored⟩ := configWith_stores hr
    refine ⟨r, x, hx, exec_configSet_of_some hr, fun t ht => exec_configGet_of_some ?_, fun other hne => configField_of_stored_ne hne hstored⟩
    rw [ht]
    exact configField_of_stored hid hstored
  case rejected => exact exec_configSet_of_none (configWith_eq_none_iff.mpr hbad)

/-- Settles O14: an id has an entry in the table of R35 exactly if it is at most 0x10. -/
theorem configGetReturnsFieldsAndStatus : Obligations.ConfigGetReturnsFieldsAndStatus := by
  intro id s
  refine ⟨fun hid => ?field, fun hid => ?unassigned, ?status⟩
  case field =>
    have hsome : configField s.cfg id ≠ none := configField_eq_none_iff.not.mpr (BitVec.not_lt.mpr hid)
    obtain ⟨x, hx⟩ := Option.ne_none_iff_exists'.mp hsome
    exact ⟨x, (configField_eq_configTable _ _).symm.trans hx, hx, exec_configGet_of_some hx⟩
  case unassigned => exact exec_configGet_of_none (BitVec.ne_of_lt hid).symm (configField_eq_none_iff.mpr (BitVec.lt_trans (by decide) hid))
  case status => exact statusByte_eq s ▸ exec_configGet_status s

/-! ### Identity and BOOTLOADER_ENTER (R303 to R305, R309) -/

/-- Settles O10: each command is one write of the serial number or of the reply. -/
theorem serialAndRevisionCommands : Obligations.SerialAndRevisionCommands :=
  fun _ _ => ⟨finish_ok _, finish_ok _, finish_ok _⟩

theorem decode_bootloaderEnter : decode [0x56#8] = .ok (.bootloaderEnter, []) := rfl

theorem step_bootloaderEnter {later : List Packet} (hf : s.faults = []) (hin : s.inputs = ⟨.host, [0x56#8]⟩ :: later) : step s = .refused .bootloader := by
  cases hr : s.refused with
  | true => exact step_of_refused hf hr
  | false => exact step_of_fetch_run hf hr ((fetch_of_host hin).trans (fetchHost_of_command decode_bootloaderEnter Bool.false_ne_true))

/-- Settles O7: the state such a step ends in is marked refused, and a refused state has no next state. -/
theorem bootloaderEnterIsRefused : Obligations.BootloaderEnterIsRefused := by
  refine ⟨fun _ => rfl, fun s later hf hin => ?_⟩
  have hstep : step s = .refused .bootloader := step_bootloaderEnter hf hin
  have hmarked : (afterStep s).refused = true := by rw [afterStep_of_refused hstep, markRefused_refused]
  exact ⟨hstep, hmarked, step_ne_next_of_refused hmarked⟩

end Sys2Proof.Proofs
end

section
/-! PROOFS. The mode changes while a frame is in progress (R276, R335, R383). -/

namespace Sys2Proof.Proofs

open Sys2Proof.Machine Sys2Proof.Safety

variable {c : Config} {s t : State}

/-! ### POWER_OFF and SOFT_RESET abandon the frame (R172, R371) -/

theorem not_midFrame_of_idle (hrx : s.rxState = .idle) (htx : s.txState = .idle) : ¬ midFrame s :=
  not_midFrame_iff.mpr (betweenFrames_iff.mpr ⟨hrx, htx⟩)

theorem not_midFrame_of_powerOff (hon : s.mode ≠ .off) (h : powerOffCommand s = .ok t) : ¬ midFrame t := by
  cases (powerOffCommand_of_on hon).symm.trans h
  exact not_midFrame_of_idle rfl rfl

theorem not_midFrame_of_resetFields (h : ResetFields c s) : ¬ midFrame s := by
  obtain ⟨hrx, htx, -⟩ := h.states
  exact not_midFrame_of_idle hrx htx

theorem not_midFrame_softReset (c : Config) (s : State) : ¬ midFrame (softReset c s) :=
  not_midFrame_of_resetFields (resetFields_clearState c (releaseCe (releaseTr s)))

/-- Settles O36: four commands test for a frame in progress once their earlier checks pass; POWER_OFF and SOFT_RESET do not test for one, and put both sub-states back to idle. -/
theorem modeChangesFaultMidFrame : Obligations.ModeChangesFaultMidFrame := by
  intro s hm
  refine ⟨fun _ hx => ?powerOn, fun hon hplan => ?setRxMode, fun hon hplan => ?setTxMode, fun hon => ?reconfigure, fun hon => ?powerOff, ?softReset⟩
  case powerOn => exact finish_eq_fault.mpr (powerOnCommand_of_midFrame hx hm _)
  case setRxMode => exact finish_eq_fault.mpr (thenOk_of_error (setRxMode_of_midFrame hon hplan hm _))
  case setTxMode => exact finish_eq_fault.mpr (thenOk_of_error (setTxMode_of_midFrame hon hplan hm _))
  case reconfigure => exact finish_eq_fault.mpr (reconfigureCommand_of_midFrame hon hm _)
  case powerOff =>
    have hanswer := powerOffCommand_of_on hon
    exact ⟨_, finish_eq_next.mpr hanswer, not_midFrame_of_powerOff hon hanswer⟩
  case softReset => exact ⟨_, finish_ok _, not_midFrame_softReset _ _⟩

end Sys2Proof.Proofs
end

section
/-! PROOFS. The later resets complete in every state (R306, R370, R371). -/

namespace Sys2Proof.Proofs

open Sys2Proof.Machine

/-- A soft reset differs from a power-up reset in what it records alone: releasing the outputs changes the history and two fields that are cleared anyway (R371). -/
theorem softReset_eq (c : Config) (s : State) :
    softReset c s = { clearState c s with
      history := s.history ++ (if s.trsw then [.setTr false] else []) ++ (if s.ce then [.setCe false] else []) } := by
  rw [softReset, releaseCe_eq, releaseTr_eq]
  rfl

/-- Settles O9: each reset is the meaning of one `clearState`, and both read the same five draws, at the same count, for what R60 leaves unspecified. -/
theorem laterResetsComplete : Obligations.LaterResetsComplete := by
  intro s
  let d := Config.actual.draws
  let n := s.drawCount
  refine ⟨d.rat n, d.rat (n + 1), d.rat (n + 2), d.rat (n + 3), d.frameType (n + 4), ?powerUp, ?soft⟩
  case powerUp => exact finish_ok (clearState Config.actual s)
  case soft =>
    calc exec .softReset s
      _ = .next (softReset Config.actual (answer .ok none s)) := finish_ok _
      _ = _ := congrArg _ (softReset_eq Config.actual _)

end Sys2Proof.Proofs
end

section
/-! PROOFS. The payload memories stay in canonical form: a step that writes a buffer keeps the buffer's payload, or makes it by payload writes (R37, R61, R77). -/

namespace Sys2Proof.Safety

open Sys2Proof.Machine Sys2Proof.Proofs

variable {c : Config} {s t : State} {r : Except Fault State}

/-! ### The moves that keep the canonical form -/

/-- The canonical form asks the same of both buffers, so the roles do not matter. -/
theorem payloadsCanonical_iff : PayloadsCanonical s ↔ ∀ i : Fin 2, Memory.wf s.buf[i].payload where
  mp := fun ⟨hfront, hback⟩ i => by
    have hrole : ∀ f i : Fin 2, i = f ∨ i = 1 - f := by decide
    obtain rfl | rfl := hrole s.front i
    · exact hfront
    · exact hback
  mpr h := ⟨h s.front, h (backIndex s)⟩

/-- Only the buffers matter: any other field may change, and the roles may be swapped. -/
theorem PayloadsCanonical.congr (k : PayloadsCanonical s) (hbuf : t.buf = s.buf) : PayloadsCanonical t := by
  rw [payloadsCanonical_iff, hbuf]
  exact payloadsCanonical_iff.mp k

theorem PayloadsCanonical.front (k : PayloadsCanonical s) : Memory.wf (frontBuf s).payload := k.1

theorem PayloadsCanonical.writeFront (k : PayloadsCanonical s) {b : FrameBuffer} (hb : Memory.wf b.payload) :
    PayloadsCanonical (setFrontBuf b s) := by
  obtain ⟨-, hback⟩ := k
  exact ⟨by rwa [frontBuf_setFrontBuf], by rwa [backBuf_setFrontBuf]⟩

/-- The front buffer is written, its payload apart, whatever else changes but the back one. -/
theorem PayloadsCanonical.frontCounters (k : PayloadsCanonical s) {b : FrameBuffer} (hbuf : t.buf = s.buf.set s.front b)
    (hb : b.payload = (frontBuf s).payload) : PayloadsCanonical t :=
  (k.writeFront (hb ▸ k.front)).congr hbuf

/-- The frame in progress is left alone, and a drain command leaves the back buffer's payload (R82). -/
theorem PayloadsCanonical.drained (k : PayloadsCanonical s) (hframe : framePart t = framePart s) (hback : Drained s t) : PayloadsCanonical t := by
  obtain ⟨-, rssi, freq, flags, hb⟩ := hback
  have hf : frontBuf t = frontBuf s := congrArg (·.2.2.1) hframe
  rw [PayloadsCanonical, hf, hb]
  exact k

/-- Where the outcome is a state, its payload memories are in canonical form. -/
def StaysCanonical : Except Fault State → Prop
  | .ok t => PayloadsCanonical t
  | .error _ => True

theorem StaysCanonical.ok (h : StaysCanonical r) (hr : r = .ok t) : PayloadsCanonical t := by
  subst hr
  exact h

/-! ### The radio controller's commands (R171, R172, R178, R179, R188) -/

theorem powerOnCommand_staysCanonical (k : PayloadsCanonical s) (xtal : Word) : StaysCanonical (powerOnCommand c xtal s) := by
  unfold powerOnCommand
  simp only [releaseTr_eq, writeSys_eq]
  split
  · trivial
  split
  · trivial
  · exact k.congr rfl

theorem powerOffCommand_payloadsCanonical (k : PayloadsCanonical s) (h : powerOffCommand s = .ok t) : PayloadsCanonical t := by
  by_cases hoff : s.mode = .off
  · cases (powerOffCommand_of_off hoff).symm.trans h
    exact k.congr rfl
  · cases (powerOffCommand_of_on hoff).symm.trans h
    by_cases hm : midFrame s
    · exact k.frontCounters (if_pos hm) rfl
    · exact k.congr (if_neg hm)

theorem setRxMode_payloadsCanonical (k : PayloadsCanonical s) (h : setRxMode c s = .ok t) : PayloadsCanonical t := by
  obtain ⟨-, -, rfl⟩ := setRxMode_eq_ok h
  exact k.congr rfl

theorem setTxMode_payloadsCanonical (k : PayloadsCanonical s) (h : setTxMode c s = .ok t) : PayloadsCanonical t := by
  obtain ⟨-, -, rfl⟩ := setTxMode_eq_ok h
  exact k.congr rfl

theorem reconfigureAfc_keepsFrame (c : Config) (s : State) : KeepsFrame s (reconfigureAfc c s) := by
  unfold reconfigureAfc
  split
  · exact enableAfc_keepsFrame c _ _ _ s
  · exact disableAfc_keepsFrame c s

/-- Everything before the last part of RECONFIGURE leaves the frame and the back buffer alone; the last part is SET_RX_MODE. -/
theorem reconfigureCommand_payloadsCanonical (k : PayloadsCanonical s) (h : reconfigureCommand c s = .ok t) : PayloadsCanonical t := by
  obtain ⟨s1, s2, s3, s4, s5, _, _, h1, h2, h3, h4, h5, rfl⟩ := reconfigureCommand_ok h
  have hframe : framePart s4 = framePart s := by
    rw [(reconfigureAfc_keepsFrame c s3).ok h4, configureTx_framePart h3, configureRx_framePart h2, (setSyncWord_keepsFrame c _ _ _ s).ok h1]
  have hback : BackKept s s4 :=
    ((setSyncWord_backKept h1).trans (configureRx_backKept h2)).trans ((configureTx_backKept h3).trans (reconfigureAfc_backKept h4))
  exact (setRxMode_payloadsCanonical (k.drained hframe hback.drained) h5).congr rfl

/-- A part of a command keeps the canonical form as a command too. -/
theorem payloadsCanonical_of_thenOk (hr : ∀ {u}, r = .ok u → PayloadsCanonical u) (h : thenOk r = .ok t) : PayloadsCanonical t := by
  obtain ⟨u, hu, rfl⟩ := thenOk_eq_ok.mp h
  exact (hr hu).congr rfl

/-! ### TX_START: the payload is the host's frame, written byte by byte (R271) -/

theorem startFrame_payloadsCanonical (k : PayloadsCanonical s) {f : List Byte} {ft : FrameType} (h : startFrame c f ft s = .ok t) :
    PayloadsCanonical t := by
  have hloaded : PayloadsCanonical (setFrontBuf (loadFrame f s) s) := k.writeFront (Memory.writeAll_wf k.front 0 f)
  unfold startFrame at h
  simp only at h
  split at h
  · cases h
  split at h
  · cases h
  next hswitch =>
  cases h
  rw [eq_of_txModeSwitch_ok hswitch]
  exact hloaded.congr rfl

theorem txStartCommand_payloadsCanonical (k : PayloadsCanonical s) (h : txStartCommand c s = .ok t) : PayloadsCanonical t := by
  have hsensed : PayloadsCanonical (transmitAllowed c s).2 := k.congr (by rw [transmitAllowed_eq])
  have hpulled : PayloadsCanonical (hostPull c (transmitAllowed c s).2).2 := hsensed.congr rfl
  unfold txStartCommand at h
  simp only at h
  split at h
  · cases h
  split at h
  · cases h; exact k.congr rfl
  split at h
  · cases h; exact hsensed.congr rfl
  generalize hostPull c (transmitAllowed c s).2 = w at h hpulled
  split at h
  · cases h; exact hpulled.congr rfl
  split at h
  · cases h
  split at h
  · cases h; exact hpulled.congr rfl
  · exact startFrame_payloadsCanonical hpulled h

/-! ### Reception: a body byte is one payload write (R250 to R255) -/

theorem syncDetect_payloadsCanonical (k : PayloadsCanonical s) : PayloadsCanonical (syncDetect c s) := k.frontCounters rfl rfl

theorem prefixByte_payloadsCanonical (k : PayloadsCanonical s) (b : Byte) : PayloadsCanonical (prefixByte c b s) := by
  by_cases hreject : (frontBuf s).progress + 1 = c.rxPrefixLen
      ∧ 2 * s.syncActive.tol < s.rxErr + hd b ((callsignTail c).getD (frontBuf s).progress 0)
  · rw [prefixByte_of_rejected hreject.1 hreject.2]
    exact k.frontCounters rfl rfl
  · rw [prefixByte_of_counted hreject]
    exact k.frontCounters rfl rfl

theorem markerByte_payloadsCanonical (k : PayloadsCanonical s) (b : Byte) : PayloadsCanonical (markerByte c b s) := k.frontCounters rfl rfl

/-- An overrun drops the front buffer's counters; a complete frame is marked ready and the roles are swapped. -/
theorem rxComplete_payloadsCanonical (k : PayloadsCanonical s) : PayloadsCanonical (rxComplete s) := by
  unfold rxComplete
  split
  · exact k.frontCounters rfl rfl
  · exact k.frontCounters rfl rfl

theorem bodyByte_staysCanonical (k : PayloadsCanonical s) (b : Byte) : StaysCanonical (bodyByte c b s) := by
  unfold bodyByte
  simp only
  split
  · trivial
  next m hm =>
  obtain ⟨-, rfl⟩ := writePayload_ok.mp hm
  have hstored : PayloadsCanonical (setFrontBuf (storeByte (frontBuf s) b) s) := k.writeFront (Memory.write_wf k.front _ b)
  split
  · exact rxComplete_payloadsCanonical hstored
  · exact hstored

theorem rxByte_staysCanonical (k : PayloadsCanonical s) (b : Byte) : StaysCanonical (rxByte c b s) := by
  unfold rxByte
  split
  · trivial
  · exact bodyByte_staysCanonical k b
  all_goals
    split
    · exact prefixByte_payloadsCanonical k b
    split
    · exact markerByte_payloadsCanonical k b
    · trivial

/-! ### Transmission: the payload is read (R256 to R259) -/

theorem trainingByte_staysCanonical (k : PayloadsCanonical s) : StaysCanonical (trainingByte c s) := by
  unfold trainingByte
  simp only
  split
  · trivial
  split
  · exact k.frontCounters rfl rfl
  · exact k.frontCounters rfl rfl

theorem preambleByte_staysCanonical (k : PayloadsCanonical s) : StaysCanonical (preambleByte c s) := by
  unfold preambleByte
  simp only
  split
  · trivial
  split
  · exact k.congr rfl
  · exact k.congr rfl

theorem txComplete_payloadsCanonical (k : PayloadsCanonical s) (h : txComplete c s = .ok t) : PayloadsCanonical t := by
  rw [eq_of_txComplete_ok h]
  exact k.congr rfl

theorem txBodyByte_payloadsCanonical (k : PayloadsCanonical s) (h : txBodyByte c s = .ok t) : PayloadsCanonical t := by
  unfold txBodyByte at h
  simp only at h
  split at h
  · split at h
    · cases h
    · cases h; exact k.frontCounters rfl rfl
  split at h
  · exact txComplete_payloadsCanonical k h
  · cases h

theorem txByte_payloadsCanonical (k : PayloadsCanonical s) (h : txByte c s = .ok t) : PayloadsCanonical t := by
  unfold txByte at h
  split at h
  · cases h
  · exact (trainingByte_staysCanonical k).ok h
  · exact (preambleByte_staysCanonical k).ok h
  · exact txBodyByte_payloadsCanonical k h

/-! ### The two events (R249) -/

theorem evSyncDetect_staysCanonical (k : PayloadsCanonical s) : StaysCanonical (evSyncDetect c s) := by
  unfold evSyncDetect
  cases s.syncArmed with
  | false => exact k
  | true => exact syncDetect_payloadsCanonical k

theorem evByteClock_payloadsCanonical (k : PayloadsCanonical s) {b : Byte} (h : evByteClock c b s = .ok t) : PayloadsCanonical t := by
  unfold evByteClock at h
  cases hclk : s.byteclkEn with
  | false =>
    rw [hclk] at h
    cases h
    exact k
  | true =>
    rw [hclk, takeEvent_true] at h
    have htaken : ∀ e, PayloadsCanonical (record e s) := fun _ => k.congr rfl
    unfold byteClockHandler at h
    split at h
    · exact txByte_payloadsCanonical (htaken _) h
    · exact (rxByte_staysCanonical (htaken _) b).ok h

/-! ### The resets (R370, R371) -/

theorem payloadsCanonical_clearState (c : Config) (s : State) : PayloadsCanonical (clearState c s) := ⟨List.Pairwise.nil, List.Pairwise.nil⟩

/-! ### Every instruction and every step -/

theorem exec_payloadsCanonical {i : Instr} (k : PayloadsCanonical s) (h : exec i s = .next t) : PayloadsCanonical t := by
  have hkept : ∀ {r}, KeepsFrame s r → (r = .ok t → Drained s t) → finish r = .next t → PayloadsCanonical t :=
    fun hframe hback h => k.drained (hframe.ok (finish_eq_next.mp h)) (hback (finish_eq_next.mp h))
  cases i with
  | planClocks | readRssi | readAfcOffset | readTemperature | readSupplyVoltage | readChipVersion | regWrite | regRead | scrGenerate | scrApply
  | configGet | serialGet | fwRevGet =>
    have hquiet := quiet_of_isQuery rfl h
    exact k.drained (framePart_of_quiet hquiet) (backKept_of_quiet hquiet).drained
  | configureRx p q freq ifbw => exact hkept (configureRxCommand_keepsFrame _ p q freq ifbw s) (fun hr => (configureRxCommand_backKept hr).drained) h
  | configureTx p q freq => exact hkept (configureTxCommand_keepsFrame _ p q freq s) (fun hr => (configureTxCommand_backKept hr).drained) h
  | configSet id v => exact hkept (configSetCommand_keepsFrame id v s) (fun hr => (configSetCommand_backKept hr).drained) h
  | csCheck => exact hkept (csCheckCommand_keepsFrame _ s) (fun hr => (csCheckCommand_backKept hr).drained) h
  | rxDrainBegin => exact hkept (rxDrainBeginCommand_keepsFrame _ s) rxDrainBeginCommand_drained h
  | rxDrainEnd => exact hkept (rxDrainEndCommand_keepsFrame s) rxDrainEndCommand_drained h
  | serialSet => cases h; exact k.congr rfl
  | setSyncWord => exact hkept (setSyncWord_keepsFrame _ _ _ _ s).thenOk (fun hr => (thenOk_backKept (fun _ => setSyncWord_backKept) hr).drained) h
  | enableAfc => exact hkept (enableAfc_keepsFrame _ _ _ _ s).thenOk (fun hr => (thenOk_backKept (fun _ => enableAfc_backKept) hr).drained) h
  | disableAfc => exact hkept (disableAfc_keepsFrame _ s).thenOk (fun hr => (thenOk_backKept (fun _ => disableAfc_backKept) hr).drained) h
  | setRxMode => exact payloadsCanonical_of_thenOk (setRxMode_payloadsCanonical k) (finish_eq_next.mp h)
  | setTxMode => exact payloadsCanonical_of_thenOk (setTxMode_payloadsCanonical k) (finish_eq_next.mp h)
  | reconfigure => exact reconfigureCommand_payloadsCanonical k (finish_eq_next.mp h)
  | powerOn xtal => exact (powerOnCommand_staysCanonical k xtal).ok (finish_eq_next.mp h)
  | powerOff => exact powerOffCommand_payloadsCanonical k (finish_eq_next.mp h)
  | txStart => exact txStartCommand_payloadsCanonical k (finish_eq_next.mp h)
  | evSyncDetect => exact (evSyncDetect_staysCanonical k).ok (finish_eq_next.mp h)
  | evByteClock => exact evByteClock_payloadsCanonical k (finish_eq_next.mp h)
  | softReset | evPowerUpReset => cases h; exact payloadsCanonical_clearState _ _
  | bootloaderEnter => cases h

theorem step_payloadsCanonical (k : PayloadsCanonical s) (h : step s = .next t) : PayloadsCanonical t := by
  have hf : s.faults = [] := by_contra fun hf => step_ne_next_of_faults hf t h
  have hr : s.refused = false := Bool.eq_false_iff.mpr fun hr => step_ne_next_of_refused hr t h
  have htaken : ∀ l, PayloadsCanonical { s with inputs := l } := fun _ => k.congr rfl
  obtain ⟨l, hs | hs | ⟨i, hs⟩⟩ := step_cases hf hr
  · cases hs.symm.trans h; exact htaken l
  · cases hs.symm.trans h; exact (htaken l).congr rfl
  · exact exec_payloadsCanonical (htaken l) (hs.symm.trans h)

end Sys2Proof.Safety

namespace Sys2Proof.Proofs

open Sys2Proof.Safety

/-- Settles O59: a step makes a payload by payload writes, by a reset or not at all. -/
theorem everyStepKeepsPayloadsCanonical : Obligations.EveryStepKeepsPayloadsCanonical :=
  fun _ _ => step_payloadsCanonical

end Sys2Proof.Proofs
end
